-- ==== Sys2Proof/Word.lean ====
section
/-! DEFINITION. Word: the machine's bit-vector types (00_scope R6, R7: every field is unsigned). -/

namespace Sys2Proof

/-- A byte of the packet buffer (R6). -/
abbrev Byte := BitVec 8

/-- A 16-bit field. -/
abbrev Half := BitVec 16

/-- A host register word (10_state R21), and an offset or length as a register holds it. -/
abbrev Word := BitVec 32

end Sys2Proof
end

