-- ==== Sys2Proof/Config.lean ====
section
/-! DEFINITION. Config: the build-time parameters of 00_scope R5, this spec's values of them, and the free values
(what the spec leaves as `any value`), which have no body. -/

namespace Sys2Proof

/-- Where GFC sits in the header's first byte (30_encoding R85, R86). -/
inductive GfcNibble where
  | low
  | high
deriving DecidableEq, Repr

/-- The order of the ConfigureJoin body's fields (30_encoding R90, R91). -/
inductive CjLayout where
  | doc
  | standard
deriving DecidableEq, Repr

/-- The numeric codes of the descriptor's enumerations (30_encoding R81 to R83), those a rule tests. -/
structure EnumCodes where
  aal1 : BitVec 8
  aal34 : BitVec 8
  aal5 : BitVec 8
  signalling : BitVec 8
  oam : BitVec 8
  llcMux : BitVec 8
  lane : BitVec 8
  ilmi : BitVec 8
  leControl : BitVec 8
  lane8023 : BitVec 8
  lane8025 : BitVec 8
  lane8023Mc : BitVec 8
  lane8025Mc : BitVec 8
deriving DecidableEq, Repr

/-- The parameter record of 00_scope R5. JOB_LATENCY, a relation on time, is no field of it (log entry 3). -/
structure Config where
  /-- BUF_CAP, the packet buffer's bytes (R5, R60). -/
  bufCap : Nat
  gfcNibble : GfcNibble
  cjLayout : CjLayout
  /-- LE_OPCODE_VALUES, by OPCLASS 0 to 17 (30_encoding R97). -/
  leOpcodes : List (BitVec 16)
  ldTagMac : BitVec 16
  ldTagRoute : BitVec 16
  elanNameMax : Nat
  /-- AAL5_CELL_PAYLOAD (42_aal5_trailer R159). -/
  cellPayload : Nat
  tlvSlots : Nat
  /-- NUM_ENGINES, at least 1 (60_exceptions R272). -/
  numEngines : Nat
  codes : EnumCodes
deriving DecidableEq, Repr

/-- OPEN PARAMETER: NUM_ENGINES of this spec, less one (00_scope R5, 60_exceptions R272; DESIGN CHOICE, log entry 19). -/
opaque Config.furtherEngines : Nat

/-- This spec's configuration (00_scope R5; 30_encoding R81 to R83, R97; UNVERIFIED, log entry 16). -/
def Config.aldb : Config where
  bufCap := 65568
  gfcNibble := .low
  cjLayout := .doc
  leOpcodes :=
    [0x0001, 0x0101, 0x0002, 0x0102, 0x0003, 0x0103, 0x0004, 0x0104, 0x0005,
     0x0105, 0x0006, 0x0106, 0x0007, 0x0107, 0x0008, 0x0009, 0x000A, 0x010A]
  ldTagMac := 0x0001
  ldTagRoute := 0x0002
  elanNameMax := 32
  cellPayload := 48
  tlvSlots := 255
  numEngines := Config.furtherEngines + 1
  codes :=
    { aal1 := 1, aal34 := 3, aal5 := 4, signalling := 6, oam := 7, llcMux := 1, lane := 3, ilmi := 4,
      leControl := 1, lane8023 := 2, lane8025 := 3, lane8023Mc := 4, lane8025Mc := 5 }

/-- FREE VALUE: what a byte of the packet buffer that nothing has written reads as, by its offset (10_state R47, R49; 93
U9 `any value`; DESIGN CHOICE, log entry 1). One constant serves every engine and every power-on (DESIGN CHOICE, log
entry 24). -/
opaque Config.powerOnByte : Nat → BitVec 8

/-- FREE VALUE: what the k-th read of a result register or of ERR_OFFSET made while BUSY gives (70_reset R285; 93 U11 `any
value`; DESIGN CHOICE, log entry 4). One constant serves every engine, each counting from 0 (DESIGN CHOICE, log entry
24). -/
opaque Config.busyRead : Nat → BitVec 32

end Sys2Proof
end

