-- ==== Sys2Proof/Syntax.lean ====
section
/-! DEFINITION. Syntax: the rows of spec/opcode_table.json as one inductive, each with the operands its rule names,
and the formats of 30_encoding that select them. -/

namespace Sys2Proof

/-- The format a row belongs to: spec/opcode_table.json's "format" (30_encoding R80, R84). -/
inductive Format where
  | job
  | pduDispatch
  | laneSubtype
  | lecOpcode
  | cellHdr
  | lanDest
  | tlv
  | lecBody
deriving DecidableEq, Repr

/-- The body kinds of R_LEC1.BODY (30_encoding R98); code 7 is never written. -/
inductive BodyKind where
  | none
  | configureJoin
  | registration
  | arp
  | verify
  | flush
  | topology
deriving DecidableEq, Repr

/-- R_LEC1.BODY codes (30_encoding R98). -/
def BodyKind.code : BodyKind → BitVec 3
  | .none => 0
  | .configureJoin => 1
  | .registration => 2
  | .arp => 3
  | .verify => 4
  | .flush => 5
  | .topology => 6

/-- The rows of the opcode table. `po pl` is the payload slice `[PO, PO+PL)` (40_job_dispatch R125), `f` the start F
of an LE Control frame (43_le_control), `d slot` a LAN destination's offset and result slot (45 R240), `o n` a TLV
run's start and count (45 R245). The JOB rows take their operands from the latch DL (10_state R31). -/
inductive Instr where
  | jobCell
  | jobPduTrunc
  | jobPduTail
  | jobPduCut
  | pduSscop (po pl : Word)
  | pduLlc (po pl : Word)
  | pduLane (po pl : Word)
  | pduIlmi (po pl : Word)
  | pduRaw (tt : BitVec 8) (po pl : Word)
  | laneLeControl (po pl : Word)
  | lane8023 (po pl : Word)
  | lane8025 (po pl : Word)
  | lane8023Mc (po pl : Word)
  | lane8025Mc (po pl : Word)
  | laneRaw (st : BitVec 8) (po pl : Word)
  | configureRequest (f : Word)
  | configureResponse (f : Word)
  | joinRequest (f : Word)
  | joinResponse (f : Word)
  | readyQuery (f : Word)
  | readyInd (f : Word)
  | registerRequest (f : Word)
  | registerResponse (f : Word)
  | unregisterRequest (f : Word)
  | unregisterResponse (f : Word)
  | arpRequest (f : Word)
  | arpResponse (f : Word)
  | flushRequest (f : Word)
  | flushResponse (f : Word)
  | narpRequest (f : Word)
  | topologyRequest (f : Word)
  | verifyRequest (f : Word)
  | verifyResponse (f : Word)
  | lecUnknown (op : Half) (f : Word)
  | hdrUnpack
  | ldDecode (d : Word) (slot : BitVec 8)
  | tlvWalk (o : Word) (n : BitVec 8)
  | cjBody (f : Word)
  | regBody (f : Word)
  | arpBody (f : Word)
  | verifyBody (f : Word)
  | flushBody (f : Word)
deriving DecidableEq, Repr

/-- The format of a row, as spec/opcode_table.json lists it. -/
def Instr.format : Instr → Format
  | .jobCell | .jobPduTrunc | .jobPduTail | .jobPduCut => .job
  | .pduSscop _ _ | .pduLlc _ _ | .pduLane _ _ | .pduIlmi _ _ | .pduRaw _ _ _ => .pduDispatch
  | .laneLeControl _ _ | .lane8023 _ _ | .lane8025 _ _ | .lane8023Mc _ _ | .lane8025Mc _ _
  | .laneRaw _ _ _ => .laneSubtype
  | .configureRequest _ | .configureResponse _ | .joinRequest _ | .joinResponse _ | .readyQuery _
  | .readyInd _ | .registerRequest _ | .registerResponse _ | .unregisterRequest _
  | .unregisterResponse _ | .arpRequest _ | .arpResponse _ | .flushRequest _ | .flushResponse _
  | .narpRequest _ | .topologyRequest _ | .verifyRequest _ | .verifyResponse _
  | .lecUnknown _ _ => .lecOpcode
  | .hdrUnpack => .cellHdr
  | .ldDecode _ _ => .lanDest
  | .tlvWalk _ _ => .tlv
  | .cjBody _ | .regBody _ | .arpBody _ | .verifyBody _ | .flushBody _ => .lecBody

end Sys2Proof
end

