-- ==== Sys2Proof/WellFormed.lean ====
section
/-! DEFINITION. WellFormed: which terms of `Instr` are instructions of the block: the code a row carries is one its row
covers, and its offsets lie in the packet buffer. -/

namespace Sys2Proof

/-- A payload slice `[PO, PO+PL)` lies in the buffer, since LIM <= DL.L <= BUF_CAP (10_state R40, 60 R264). -/
def sliceOk (c : Config) (po pl : Word) : Bool := po.toNat + pl.toNat ≤ c.bufCap

/-- A frame or field start lies in the buffer or at its end. -/
def offsetOk (c : Config) (o : Word) : Bool := o.toNat ≤ c.bufCap

/-- A TLV run's start may pass LIM by at most the 53 bytes of the longest unchecked skip (10_state R41, 44 R214). -/
def runOk (c : Config) (o : Word) : Bool := o.toNat ≤ c.bufCap + 53

/-- PDU_RAW covers every TRAF_TYPE but LLC_MUX, LANE and ILMI (40 R129). -/
def rawTypeOk (c : Config) (tt : BitVec 8) : Bool :=
  tt != c.codes.llcMux && tt != c.codes.lane && tt != c.codes.ilmi

/-- LANE_RAW covers every TRAF_SUBTYPE but 1 to 5 (40 R133). -/
def rawSubtypeOk (c : Config) (st : BitVec 8) : Bool :=
  st != c.codes.leControl && st != c.codes.lane8023 && st != c.codes.lane8025 &&
    st != c.codes.lane8023Mc && st != c.codes.lane8025Mc

/-- LEC_UNKNOWN covers every opcode that is not one of LE_OPCODE_VALUES (43 R192). -/
def unknownOpcodeOk (c : Config) (op : Half) : Bool := !(c.leOpcodes.contains op)

/-- A LAN destination goes to result slot 0 or 1 (45 R240). -/
def slotOk (slot : BitVec 8) : Bool := slot.toNat < 2

/-- The well-formed instructions of a block built with the parameters `c` (00_scope R5). -/
def Instr.wfIn (c : Config) : Instr → Bool
  | .jobCell | .jobPduTrunc | .jobPduTail | .jobPduCut | .hdrUnpack => true
  | .pduSscop po pl | .pduLlc po pl | .pduLane po pl | .pduIlmi po pl => sliceOk c po pl
  | .pduRaw tt po pl => rawTypeOk c tt && sliceOk c po pl
  | .laneLeControl po pl | .lane8023 po pl | .lane8025 po pl | .lane8023Mc po pl
  | .lane8025Mc po pl => sliceOk c po pl
  | .laneRaw st po pl => rawSubtypeOk c st && sliceOk c po pl
  | .configureRequest f | .configureResponse f | .joinRequest f | .joinResponse f | .readyQuery f
  | .readyInd f | .registerRequest f | .registerResponse f | .unregisterRequest f
  | .unregisterResponse f | .arpRequest f | .arpResponse f | .flushRequest f | .flushResponse f
  | .narpRequest f | .topologyRequest f | .verifyRequest f | .verifyResponse f => offsetOk c f
  | .lecUnknown op f => unknownOpcodeOk c op && offsetOk c f
  | .ldDecode d slot => slotOk slot && offsetOk c d
  | .tlvWalk o _ => runOk c o
  | .cjBody f | .regBody f | .arpBody f | .verifyBody f | .flushBody f => offsetOk c f

/-- The well-formed instructions of this spec's block. -/
def Instr.wf (i : Instr) : Bool := i.wfIn Config.aldb

end Sys2Proof
end

