-- ==== Sys2Proof/Decode.lean ====
section
/-! DEFINITION. Decode: from the bits that select a row (30_encoding section 1 and 2, R84, R97, R98) to the row, total,
refusing by name; then the encoder. The spec gives a row's operands (PO, PL, F, d, i, o, n) no encoding of their own:
they follow the selecting bits as operand words, least significant byte first (DESIGN CHOICE, log entry 7). -/

namespace Sys2Proof

/-- Why bits select no row. -/
inductive DecodeError where
  /-- Not the format's number of bytes. -/
  | wrongLength (fmt : Format)
  /-- D_CLASS does not have the AAL (or AAL and TRAF_TYPE) the format's rows share (40 R125, R130). -/
  | noRow (fmt : Format) (cls : BitVec 24)
  /-- A BODY code with no body row: NONE, TOPOLOGY, or the code 7 that is never written (30 R98). -/
  | noBodyRow (code : BitVec 8)
  /-- The operands do not lie where the row's rule has them (WellFormed). -/
  | illFormed (i : Instr)
deriving DecidableEq, Repr

/-- `k` bytes of `v`, least significant first. -/
def leBytes : Nat → Nat → List Byte
  | 0, _ => []
  | k + 1, v => BitVec.ofNat 8 v :: leBytes k (v / 256)

/-- The number whose bytes, least significant first, are `bs`. -/
def leNat : List Byte → Nat
  | [] => 0
  | b :: bs => b.toNat + 256 * leNat bs

/-- The unsigned big-endian integer of a byte sequence (20_memory R63, 00_scope R8). -/
def beNat (bs : List Byte) : Nat := bs.foldl (fun acc b => acc * 256 + b.toNat) 0

/-- A word from four bytes, least significant first. -/
def leWord (a b c d : Byte) : Word := BitVec.ofNat 32 (leNat [a, b, c, d])

/-- The index of an opcode among the values of R97, if it is one (43_le_control R193: the first match). -/
def opcodeIndex (c : Config) (op : Half) : Option Nat := c.leOpcodes.findIdx? (· == op)

/-- `opclass(op)`: the index 0 to 17, or 31 for an unknown opcode (43_le_control R193, 30_encoding R97). -/
def opclass (c : Config) (op : Half) : Nat := (opcodeIndex c op).getD 31

/-- The body-kind column of 30_encoding R97, by OPCLASS. -/
def bodyOfClass (k : Nat) : BodyKind :=
  if k ≤ 3 then .configureJoin
  else if k ≤ 5 then .none
  else if k ≤ 9 then .registration
  else if k ≤ 11 then .arp
  else if k ≤ 13 then .flush
  else if k = 14 then .arp
  else if k = 15 then .topology
  else if k ≤ 17 then .verify
  else .none

/-- `body_kind(op)` (43_le_control R193, 30_encoding R98). -/
def bodyKind (c : Config) (op : Half) : BodyKind := bodyOfClass (opclass c op)

/-- The opcode value of an OPCLASS (30_encoding R97). -/
def leValue (c : Config) (k : Nat) : Half := c.leOpcodes.getD k 0

/-- Job kind selection (30_encoding R84, 40 R121, 42 R150). -/
def selectJob (c : Config) (aal : BitVec 8) (truncated : Bool) (l rl : Word) : Instr :=
  if aal = c.codes.aal5 ∨ aal = c.codes.signalling then
    if truncated then .jobPduTrunc
    else if rl.toNat ≤ l.toNat then .jobPduTail
    else .jobPduCut
  else .jobCell

/-- PDU dispatch (40_job_dispatch R125), on the AAL codes whose jobs take the PDU path (R121). -/
def selectPdu (c : Config) (aal tt : BitVec 8) (po pl : Word) : Option Instr :=
  if aal = c.codes.signalling then some (.pduSscop po pl)
  else if aal = c.codes.aal5 then
    some (if tt = c.codes.llcMux then .pduLlc po pl
      else if tt = c.codes.lane then .pduLane po pl
      else if tt = c.codes.ilmi then .pduIlmi po pl
      else .pduRaw tt po pl)
  else none

/-- The LANE split by subtype (40_job_dispatch R130; 30_encoding R83). -/
def selectLane (c : Config) (aal tt st : BitVec 8) (po pl : Word) : Option Instr :=
  if aal = c.codes.aal5 ∧ tt = c.codes.lane then
    some (if st = c.codes.leControl then .laneLeControl po pl
      else if st = c.codes.lane8023 then .lane8023 po pl
      else if st = c.codes.lane8025 then .lane8025 po pl
      else if st = c.codes.lane8023Mc then .lane8023Mc po pl
      else if st = c.codes.lane8025Mc then .lane8025Mc po pl
      else .laneRaw st po pl)
  else none

/-- The LE Control row of an opcode (30_encoding R97, 43_le_control R192, R193). -/
def selectOpcode (c : Config) (op : Half) (f : Word) : Instr :=
  match opcodeIndex c op with
  | some 0 => .configureRequest f
  | some 1 => .configureResponse f
  | some 2 => .joinRequest f
  | some 3 => .joinResponse f
  | some 4 => .readyQuery f
  | some 5 => .readyInd f
  | some 6 => .registerRequest f
  | some 7 => .registerResponse f
  | some 8 => .unregisterRequest f
  | some 9 => .unregisterResponse f
  | some 10 => .arpRequest f
  | some 11 => .arpResponse f
  | some 12 => .flushRequest f
  | some 13 => .flushResponse f
  | some 14 => .narpRequest f
  | some 15 => .topologyRequest f
  | some 16 => .verifyRequest f
  | some 17 => .verifyResponse f
  | _ => .lecUnknown op f

/-- The body row of a BODY code (30_encoding R98; 43_le_control R170, S_BODY). -/
def selectBody (code : BitVec 8) (f : Word) : Option Instr :=
  if code = 1 then some (.cjBody f)
  else if code = 2 then some (.regBody f)
  else if code = 3 then some (.arpBody f)
  else if code = 4 then some (.verifyBody f)
  else if code = 5 then some (.flushBody f)
  else none

/-- A row is answered only when its operands are well formed. -/
def checked (c : Config) (i : Instr) : Except DecodeError Instr := if i.wfIn c then .ok i else .error (.illFormed i)

/-- A class of 24 bits, as the table numbers it: AAL, TRAF_TYPE, TRAF_SUBTYPE from the low byte up. -/
def classBits (aal tt st : Byte) : BitVec 24 := st ++ tt ++ aal

/-- The row that a format's bits select under the parameters `c` (00_scope R5). The bytes are, by format:
JOB: D_CLASS, D_FLAGS, D_CAP_LEN, D_REP_LEN, four bytes each, least significant first (R26 to R28);
PDU_DISPATCH and LANE_SUBTYPE: the three low bytes of D_CLASS (R27), then the operand words PO and PL;
LEC_OPCODE: the two opcode bytes as the frame holds them, high byte first (R63, R88), then the operand word F;
CELL_HDR: any bytes; LAN_DEST: the operand word d, then the slot; TLV: the operand word o, then the count;
LEC_BODY: the BODY code (R98), then the operand word F. -/
def decodeIn (c : Config) (fmt : Format) (bs : List Byte) : Except DecodeError Instr :=
  match fmt, bs with
  | .job, [aal, _, _, _, g, _, _, _, l0, l1, l2, l3, r0, r1, r2, r3] =>
    checked c (selectJob c aal (g.getLsbD 0) (leWord l0 l1 l2 l3) (leWord r0 r1 r2 r3))
  | .pduDispatch, [aal, tt, st, p0, p1, p2, p3, q0, q1, q2, q3] =>
    match selectPdu c aal tt (leWord p0 p1 p2 p3) (leWord q0 q1 q2 q3) with
    | some i => checked c i
    | none => .error (.noRow .pduDispatch (classBits aal tt st))
  | .laneSubtype, [aal, tt, st, p0, p1, p2, p3, q0, q1, q2, q3] =>
    match selectLane c aal tt st (leWord p0 p1 p2 p3) (leWord q0 q1 q2 q3) with
    | some i => checked c i
    | none => .error (.noRow .laneSubtype (classBits aal tt st))
  | .lecOpcode, [h, l, f0, f1, f2, f3] => checked c (selectOpcode c (h ++ l) (leWord f0 f1 f2 f3))
  | .cellHdr, _ => checked c .hdrUnpack
  | .lanDest, [d0, d1, d2, d3, slot] => checked c (.ldDecode (leWord d0 d1 d2 d3) slot)
  | .tlv, [o0, o1, o2, o3, n] => checked c (.tlvWalk (leWord o0 o1 o2 o3) n)
  | .lecBody, [code, f0, f1, f2, f3] =>
    match selectBody code (leWord f0 f1 f2 f3) with
    | some i => checked c i
    | none => .error (.noBodyRow code)
  | fmt, _ => .error (.wrongLength fmt)

/-- The row that a format's bits select in this spec's block. -/
def decode (fmt : Format) (bs : List Byte) : Except DecodeError Instr := decodeIn Config.aldb fmt bs

/-! The encoder: for each row, bits that select it. -/

/-- The bytes of an operand word. -/
def wordBytes (w : Word) : List Byte := leBytes 4 w.toNat

/-- The four descriptor words that select a job (30_encoding R84, R109): D_CLASS, D_FLAGS, D_CAP_LEN, D_REP_LEN. -/
def jobBytes (cls flags l rl : Word) : List Byte := wordBytes cls ++ wordBytes flags ++ wordBytes l ++ wordBytes rl

/-- D_CLASS's three low bytes, then the slice. -/
def sliceBytes (aal tt st : BitVec 8) (po pl : Word) : List Byte :=
  [aal, tt, st] ++ wordBytes po ++ wordBytes pl

/-- The opcode as the frame holds it, then the frame start. -/
def opcodeBytes (op : Half) (f : Word) : List Byte :=
  [op.extractLsb' 8 8, op.extractLsb' 0 8] ++ wordBytes f

/-- The BODY code, then the frame start. -/
def bodyBytes (code : BitVec 8) (f : Word) : List Byte := code :: wordBytes f

/-- Bits that select a well-formed row in this spec's block, written from the encoding tables (30_encoding R81 to R84,
R97, R98). -/
def encode : Instr → List Byte
  | .jobCell => jobBytes 0x00000001 0 0 0
  | .jobPduTrunc => jobBytes 0x00000004 1 0 0
  | .jobPduTail => jobBytes 0x00000004 0 8 8
  | .jobPduCut => jobBytes 0x00000004 0 0 1
  | .pduSscop po pl => sliceBytes 6 0 0 po pl
  | .pduLlc po pl => sliceBytes 4 1 0 po pl
  | .pduLane po pl => sliceBytes 4 3 0 po pl
  | .pduIlmi po pl => sliceBytes 4 4 0 po pl
  | .pduRaw tt po pl => sliceBytes 4 tt 0 po pl
  | .laneLeControl po pl => sliceBytes 4 3 1 po pl
  | .lane8023 po pl => sliceBytes 4 3 2 po pl
  | .lane8025 po pl => sliceBytes 4 3 3 po pl
  | .lane8023Mc po pl => sliceBytes 4 3 4 po pl
  | .lane8025Mc po pl => sliceBytes 4 3 5 po pl
  | .laneRaw st po pl => sliceBytes 4 3 st po pl
  | .configureRequest f => opcodeBytes 0x0001 f
  | .configureResponse f => opcodeBytes 0x0101 f
  | .joinRequest f => opcodeBytes 0x0002 f
  | .joinResponse f => opcodeBytes 0x0102 f
  | .readyQuery f => opcodeBytes 0x0003 f
  | .readyInd f => opcodeBytes 0x0103 f
  | .registerRequest f => opcodeBytes 0x0004 f
  | .registerResponse f => opcodeBytes 0x0104 f
  | .unregisterRequest f => opcodeBytes 0x0005 f
  | .unregisterResponse f => opcodeBytes 0x0105 f
  | .arpRequest f => opcodeBytes 0x0006 f
  | .arpResponse f => opcodeBytes 0x0106 f
  | .flushRequest f => opcodeBytes 0x0007 f
  | .flushResponse f => opcodeBytes 0x0107 f
  | .narpRequest f => opcodeBytes 0x0008 f
  | .topologyRequest f => opcodeBytes 0x0009 f
  | .verifyRequest f => opcodeBytes 0x000A f
  | .verifyResponse f => opcodeBytes 0x010A f
  | .lecUnknown op f => opcodeBytes op f
  | .hdrUnpack => []
  | .ldDecode d slot => wordBytes d ++ [slot]
  | .tlvWalk o n => wordBytes o ++ [n]
  | .cjBody f => bodyBytes 1 f
  | .regBody f => bodyBytes 2 f
  | .arpBody f => bodyBytes 3 f
  | .verifyBody f => bodyBytes 4 f
  | .flushBody f => bodyBytes 5 f

/-! The table's words (spec/opcode_table.json): bit 0 the least significant bit, with no bits for the operand words,
which are then zero. A word does not say its format; `tableFormat` tells it from the word (DESIGN CHOICE, log entry 8). -/

/-- The format of a table word: an LE opcode of R97 in 16 bits; else D_CLASS bits with AAL 4 or 6 (24 bits of which
the low 16 say AAL5 and LANE are a LANE subtype); else an LE opcode. -/
def tableFormat (nbits w : Nat) : Format :=
  if nbits = 16 ∧ (opcodeIndex Config.aldb (BitVec.ofNat 16 w)).isSome then .lecOpcode
  else if w % 256 = 4 ∨ w % 256 = 6 then
    if 16 < nbits ∧ w % 65536 = 0x0304 then .laneSubtype else .pduDispatch
  else .lecOpcode

/-- A table word's bytes as `decode` reads them, its operand words zero. -/
def tableBytes (nbits w : Nat) : List Byte :=
  match tableFormat nbits w with
  | .lecOpcode => opcodeBytes (BitVec.ofNat 16 w) 0
  | _ => leBytes 3 w ++ wordBytes 0 ++ wordBytes 0

/-- The instruction the decoder reads from a word of spec/opcode_table.json. -/
def decodeTableWord (nbits w : Nat) : Option Instr :=
  match decode (tableFormat nbits w) (tableBytes nbits w) with
  | .ok i => some i
  | .error _ => none

end Sys2Proof
end

