-- ==== Sys2Proof/Machine/State.lean ====
section
/-! DEFINITION. State: everything 10_state.md and 20_memory.md give one engine, as plain data, with the reasons a step can
stop. The MODEL's own fields are `unit`, `port`, `rdata`, `bdata` and `freeCount` (INVENTORY.md, DESIGN CHOICE, log entries 2, 4, 6, 13). -/

namespace Sys2Proof.Machine

open Sys2Proof

/-- R42: IDLE or BUSY. -/
inductive Phase where
  | idle
  | busy
deriving DecidableEq, Repr

/-- The error kinds of 60_exceptions R261, `none` among them. -/
inductive ErrKind where
  | none
  | truncatedBuffer
  | malformedLength
  | badDescriptor
deriving DecidableEq, Repr

/-- The units of 60_exceptions R262, `none` among them. -/
inductive ErrUnit where
  | none
  | job
  | cellHeader
  | aal5
  | laneDispatch
  | leControl
  | leBody
  | lanDest
  | tlv
deriving DecidableEq, Repr

/-- The dispatch targets of 10_state R44. -/
inductive Target where
  | none
  | sscop
  | llc
  | leControl
  | ethernet
  | tokenRing
  | ilmi
  | raw
  | aalCellBody
deriving DecidableEq, Repr

/-- The LAN destination kinds of 10_state R39. -/
inductive LdKind where
  | notPresent
  | macAddress
  | routeDescriptor
deriving DecidableEq, Repr

/-- The descriptor registers (10_state R26 to R30). -/
structure Descriptor where
  capLen : Word
  repLen : Word
  cls : Word
  flags : Word
  cellCount : Word
  metaA : Word
  metaCrc : Word
deriving DecidableEq, Repr

/-- The latch DL (10_state R31). -/
structure Latch where
  l : Word
  rl : Word
  aal : BitVec 8
  trafType : BitVec 8
  trafSubtype : BitVec 8
  channel : BitVec 8
  truncated : Bool
  cellCount : Word
  metaUu : BitVec 8
  metaCpi : BitVec 8
  metaLen : BitVec 16
  metaCrc : Word
deriving DecidableEq, Repr

/-- One LAN destination result (10_state R39). -/
structure LanDest where
  tag : BitVec 16
  kind : LdKind
  mac : BitVec 48
  lanId : BitVec 12
  bridge : BitVec 4
deriving DecidableEq, Repr

/-- One TLV result slot (10_state R45). -/
structure TlvRec where
  typ : Word
  len : BitVec 8
  voff : Word
deriving DecidableEq, Repr

/-- The result record R (10_state R33 to R39, R43 to R46), a field per register field; R_VALID is `State.valid`. -/
structure Record where
  vpi : BitVec 12
  gfc : BitVec 4
  vci : BitVec 16
  pt : BitVec 3
  clp : BitVec 1
  hec : BitVec 8
  uu : BitVec 8
  cpi : BitVec 8
  len : BitVec 16
  crc : Word
  a5Cells : Word
  padOff : Word
  padLen : Word
  /-- R_A5_INFO bit 0: 0 from the buffer tail, 1 from metadata (R34). -/
  trailerSrc : BitVec 1
  /-- R_A5_INFO bit 1: 0 from metadata, 1 inferred from RL/48 (R34). -/
  cellsSrc : BitVec 1
  dispTarget : Target
  dispOff : Word
  dispLen : Word
  laneClient : BitVec 16
  marker : BitVec 16
  protocol : BitVec 8
  version : BitVec 8
  opcode : BitVec 16
  opclass : BitVec 5
  body : BodyKind
  status : BitVec 16
  transId : Word
  reqLecId : BitVec 16
  flags : BitVec 16
  remote : BitVec 1
  v2Capable : BitVec 1
  lanType : BitVec 8
  maxFrame : BitVec 8
  nameSize : BitVec 8
  nameLen : BitVec 6
  numTlvs : BitVec 8
  tlvsDone : BitVec 9
  ld0 : LanDest
  ld1 : LanDest
  /-- 20 bytes, byte 0 the most significant (R43). -/
  atm0 : BitVec 160
  atm1 : BitVec 160
  /-- 32 bytes, byte 0 the most significant, bytes at and beyond NAME_LEN zero (R43). -/
  name : BitVec 256
  /-- The TLV slots from 0 on; a slot beyond the list reads 0 (R45; DESIGN CHOICE, log entry 20). -/
  tlvs : List TlvRec
deriving DecidableEq, Repr

/-- Which unit the engine enters at its next step, with that unit's operands: a call in tail position of the
pseudocode (40 R120, R125, R130, R134; 43 R170; 44 R210), made data (DESIGN CHOICE, log entry 6). -/
inductive EngineUnit where
  /-- `job()` (R120): the unit a START enters. -/
  | job
  /-- `pdu_dispatch(PO, PL)` (R125). -/
  | pdu (po pl : Word)
  /-- The subtype split of `lane(PO, PL)` (R130), after its LIM and cursor are set. -/
  | lane (po pl : Word)
  /-- `le_control(F)` (R170). -/
  | lec (f : Word)
  /-- The body decoder that R.BODY selects (R170, S_BODY). -/
  | body (f : Word)
  /-- `tlv_walk(o, n)` (R245). -/
  | tlv (o : Word) (n : BitVec 8)
deriving DecidableEq, Repr

/-- A host transaction (10_state R49, 30_encoding R108). A register access says its size in bytes (R62). -/
inductive PortOp where
  /-- `WR addr, value`. -/
  | wr (addr size : Nat) (v : Word)
  /-- `RD addr`: the value goes to `rdata`. -/
  | rd (addr size : Nat)
  /-- One byte of `BUF`. -/
  | bufWr (off : Nat) (b : Byte)
  /-- A buffer byte read: the value goes to `bdata`. -/
  | bufRd (off : Nat)
  /-- `WAIT`: poll STATUS until DONE = 1. -/
  | wait
  /-- `EXPECT addr, value`: a checked assertion. -/
  | expect (addr : Nat) (v : Word)
  /-- The host makes no transaction in this step. -/
  | tick
deriving DecidableEq, Repr

/-- The packet buffer's contents: the bytes written since power-on, by offset (20_memory R60). -/
abbrev Memory := List Host.Cell

/-- One engine (10_state R20). -/
structure State where
  irqEn : Bool
  phase : Phase
  done : Bool
  errCode : ErrKind
  errUnit : ErrUnit
  errOffset : Word
  desc : Descriptor
  dl : Latch
  r : Record
  valid : BitVec 32
  cur : Nat
  lim : Nat
  unit : EngineUnit
  buf : Memory
  port : List PortOp
  rdata : Word
  bdata : Byte
  freeCount : Nat
deriving DecidableEq, Repr

/-- Why the machine stops with a fault. All are raised at the host's port; a job's errors are no faults (R263). -/
inductive Fault where
  /-- Raised by a host access to a register address at or above 0xE00, outside the register space and its port
  (20_memory R61, 10_state R49). Safe: the model stops. -/
  | registerAddressOutside (addr : Nat)
  /-- Raised by a host access to a buffer offset at or above BUF_CAP, outside the buffer space and its port
  (20_memory R60, 10_state R49). Safe: the model stops. -/
  | bufferOffsetOutside (off : Nat)
  /-- Raised by an EXPECT whose register reads another value (30_encoding R108): the host's assertion fails, and its
  program ends there. Safe: the model stops. -/
  | expectationFailed (addr : Nat) (got : Word)
deriving DecidableEq, Repr

/-- Why the model refuses a step. -/
inductive Refusal where
  /-- Raised by `exec` for an instruction with no meaning yet. Safe. No arm uses it now. -/
  | notModelled (mnemonic : String)
  /-- Raised by a host register access that is not an aligned 32-bit word (20_memory R62, 93 U12 `refuse`). Safe. -/
  | registerAccessShape (addr size : Nat)
  /-- Raised by a host write to the packet buffer while BUSY (70_reset R284, 93 U10 `refuse`). Safe. -/
  | bufferWriteWhileBusy (off : Nat)
  /-- Raised by an engine step whose selecting bits select no row; no state that a run reaches does so (the invariant
  of Safety.lean rules it out). Safe. -/
  | noRowSelected (why : DecodeError)
deriving DecidableEq, Repr

/-- Every descriptor register at 0 (10_state R47). -/
def Descriptor.zero : Descriptor := ⟨0, 0, 0, 0, 0, 0, 0⟩

/-- DL all zeros (10_state R47). -/
def Latch.zero : Latch where
  l := 0
  rl := 0
  aal := 0
  trafType := 0
  trafSubtype := 0
  channel := 0
  truncated := false
  cellCount := 0
  metaUu := 0
  metaCpi := 0
  metaLen := 0
  metaCrc := 0

/-- A LAN destination result that reads 0. -/
def LanDest.zero : LanDest := ⟨0, .notPresent, 0, 0, 0⟩

/-- A TLV slot that reads 0. -/
def TlvRec.zero : TlvRec := ⟨0, 0, 0⟩

/-- Every result register at 0 (10_state R31, R47). -/
def Record.zero : Record where
  vpi := 0
  gfc := 0
  vci := 0
  pt := 0
  clp := 0
  hec := 0
  uu := 0
  cpi := 0
  len := 0
  crc := 0
  a5Cells := 0
  padOff := 0
  padLen := 0
  trailerSrc := 0
  cellsSrc := 0
  dispTarget := .none
  dispOff := 0
  dispLen := 0
  laneClient := 0
  marker := 0
  protocol := 0
  version := 0
  opcode := 0
  opclass := 0
  body := .none
  status := 0
  transId := 0
  reqLecId := 0
  flags := 0
  remote := 0
  v2Capable := 0
  lanType := 0
  maxFrame := 0
  nameSize := 0
  nameLen := 0
  numTlvs := 0
  tlvsDone := 0
  ld0 := LanDest.zero
  ld1 := LanDest.zero
  atm0 := 0
  atm1 := 0
  name := 0
  tlvs := []

/-- The engine after power-on (10_state R47, 70_reset R280): every register 0, IDLE, no byte of the buffer written. The
model's own fields are empty or 0, and the unit is the one a START enters. -/
def State.reset : State where
  irqEn := false
  phase := .idle
  done := false
  errCode := .none
  errUnit := .none
  errOffset := 0
  desc := Descriptor.zero
  dl := Latch.zero
  r := Record.zero
  valid := 0
  cur := 0
  lim := 0
  unit := .job
  buf := []
  port := []
  rdata := 0
  bdata := 0
  freeCount := 0

end Sys2Proof.Machine
end

