-- ==== Sys2Proof/Machine/Operands.lean ====
section
/-! DEFINITION. Operands: the field formulas of 30_encoding section 3 to 6 and of 41 to 45, and the latch's fields. Only
VPI, VCI, the route descriptor and the name length are more than the big-endian integer of their bytes (R103). -/

namespace Sys2Proof.Machine

open Sys2Proof

/-- VPI, exactly `((b0&0xF0)<<4 | (b1>>4))`, 12 bits (41 R141). -/
def hdrVpi (b0 b1 : Byte) : BitVec 12 := ((b0 &&& 0xF0).setWidth 12 <<< 4) ||| (b1 >>> 4).setWidth 12

/-- VCI, exactly `((b1&0x0F)<<12 | b2<<4 | (b3>>4))` (41 R142). -/
def hdrVci (b1 b2 b3 : Byte) : BitVec 16 :=
  ((b1 &&& 0x0F).setWidth 16 <<< 12) ||| (b2.setWidth 16 <<< 4) ||| (b3 >>> 4).setWidth 16

/-- GFC, by the parameter GFC_NIBBLE (41 R143, 30 R86). -/
def hdrGfc (c : Config) (b0 : Byte) : BitVec 4 :=
  match c.gfcNibble with
  | .low => b0.extractLsb' 0 4
  | .high => b0.extractLsb' 4 4

/-- PT = b3[3:1] (41 R144). -/
def hdrPt (b3 : Byte) : BitVec 3 := b3.extractLsb' 1 3

/-- CLP = b3[0] (41 R144). -/
def hdrClp (b3 : Byte) : BitVec 1 := b3.extractLsb' 0 1

/-- Byte `b_k` of a header read as one 5-byte integer (41 R140). -/
def hdrByte (h : Nat) (k : Nat) : Byte := (BitVec.ofNat 40 h).extractLsb' (8 * (4 - k)) 8

/-- The six fields of a header (41 R140). -/
def unpackHeader (c : Config) (h : Nat) (r : Record) : Record :=
  { r with
    vpi := hdrVpi (hdrByte h 0) (hdrByte h 1)
    vci := hdrVci (hdrByte h 1) (hdrByte h 2) (hdrByte h 3)
    gfc := hdrGfc c (hdrByte h 0)
    pt := hdrPt (hdrByte h 3)
    clp := hdrClp (hdrByte h 3)
    hec := hdrByte h 4 }

/-- UU is the high byte of the 16-bit word at L-8 (42 R153). -/
def trailerUu (w : Nat) : BitVec 8 := (BitVec.ofNat 16 w).extractLsb' 8 8

/-- CPI is the low byte of the 16-bit word at L-8 (42 R153). -/
def trailerCpi (w : Nat) : BitVec 8 := (BitVec.ofNat 16 w).extractLsb' 0 8

/-- LAN_ID = w[15:4] (30 R101). -/
def routeLanId (w : Nat) : BitVec 12 := (BitVec.ofNat 16 w).extractLsb' 4 12

/-- BRIDGE = w[3:0] (30 R101). -/
def routeBridge (w : Nat) : BitVec 4 := (BitVec.ofNat 16 w).extractLsb' 0 4

/-- NAME_LEN = min(elanNameSize, 32) (30 R105, 44 R211). -/
def nameLenOf (c : Config) (sz : Nat) : BitVec 6 := BitVec.ofNat 6 (min sz c.elanNameMax)

/-- A 20-byte address as one number, its first byte the most significant (10_state R43). -/
def packAtm (bs : List Byte) : BitVec 160 := BitVec.ofNat 160 (beNat bs)

/-- The name slot: the name's bytes from the most significant end, zeros after them (10_state R43). -/
def packName (bs : List Byte) : BitVec 256 := BitVec.ofNat 256 (beNat bs * 256 ^ (32 - bs.length))

/-- 32-bit word `k` of a field of `n` bytes, byte 4k in bits 31:24 (10_state R43). -/
def packedWord {w : Nat} (v : BitVec w) (k : Nat) : Word := v.extractLsb' (w - 32 - 32 * k) 32

/-- The latch's copy of the descriptor registers (10_state R26 to R31). -/
def latchOf (d : Descriptor) : Latch where
  l := d.capLen
  rl := d.repLen
  aal := d.cls.extractLsb' 0 8
  trafType := d.cls.extractLsb' 8 8
  trafSubtype := d.cls.extractLsb' 16 8
  channel := d.cls.extractLsb' 24 8
  truncated := d.flags.getLsbD 0
  cellCount := d.cellCount
  metaUu := d.metaA.extractLsb' 0 8
  metaCpi := d.metaA.extractLsb' 8 8
  metaLen := d.metaA.extractLsb' 16 16
  metaCrc := d.metaCrc

/-- The latch's D_CLASS bits, as the encodings of 30_encoding number them. -/
def Latch.cls (dl : Latch) : Word := dl.channel ++ dl.trafSubtype ++ dl.trafType ++ dl.aal

/-- TLV slot `k` (10_state R45). -/
def tlvSlot (ts : List TlvRec) (k : Nat) : TlvRec := ts.getD k TlvRec.zero

/-- TLV slot `k` written; slots below it that were beyond the list read 0 (10_state R45). -/
def tlvPut : List TlvRec → Nat → TlvRec → List TlvRec
  | [], 0, v => [v]
  | [], k + 1, v => TlvRec.zero :: tlvPut [] k v
  | _ :: ts, 0, v => v :: ts
  | t :: ts, k + 1, v => t :: tlvPut ts k v

/-- LAN destination slot `i` (10_state R39). -/
def Record.ld (r : Record) (i : Nat) : LanDest := if i = 0 then r.ld0 else r.ld1

/-- LAN destination slot `i` written (10_state R39). -/
def Record.setLd (r : Record) (i : Nat) (v : LanDest) : Record := if i = 0 then { r with ld0 := v } else { r with ld1 := v }

end Sys2Proof.Machine
end

