-- ==== Sys2Proof/Machine/Flags.lean ====
section
/-! DEFINITION. Flags: the valid bits of R_VALID (10_state R32), the two LE flag meanings (43 R173), and the interrupt
(60 R267). -/

namespace Sys2Proof.Machine

open Sys2Proof

/-- The named bits of R_VALID (10_state R32). -/
inductive VBit where
  | hdr
  | a5Trailer
  | a5Cells
  | a5Pad
  | disp
  | laneClient
  | lecMarker
  | lecProtocol
  | lecVersion
  | lecOpcode
  | lecStatus
  | lecTransId
  | lecReqLecId
  | lecFlags
  | lecFlagRemote
  | lecFlagV2
  | lecBody
  | ld0
  | ld1
  | atm0
  | atm1
  | cjLanType
  | cjMaxFrame
  | numTlvs
  | cjNameSize
  | cjName
  | tlvs
deriving DecidableEq, Repr

/-- The bit's number in R_VALID (10_state R32). -/
def VBit.index : VBit → Nat
  | .hdr => 0
  | .a5Trailer => 1
  | .a5Cells => 2
  | .a5Pad => 3
  | .disp => 4
  | .laneClient => 5
  | .lecMarker => 6
  | .lecProtocol => 7
  | .lecVersion => 8
  | .lecOpcode => 9
  | .lecStatus => 10
  | .lecTransId => 11
  | .lecReqLecId => 12
  | .lecFlags => 13
  | .lecFlagRemote => 14
  | .lecFlagV2 => 15
  | .lecBody => 16
  | .ld0 => 17
  | .ld1 => 18
  | .atm0 => 19
  | .atm1 => 20
  | .cjLanType => 21
  | .cjMaxFrame => 22
  | .numTlvs => 23
  | .cjNameSize => 24
  | .cjName => 25
  | .tlvs => 26

/-- The bit as a word of R_VALID. -/
def VBit.mask (b : VBit) : BitVec 32 := 1#32 <<< b.index

/-- `V.<BIT> <- 1` (00_scope R9). -/
def State.setV (s : State) (b : VBit) : State := { s with valid := s.valid ||| b.mask }

/-- Whether a valid bit is set. -/
def State.isValid (s : State) (b : VBit) : Bool := s.valid.getLsbD b.index

/-- V.LDi (10_state R48). -/
def ldBit (i : Nat) : VBit := if i = 0 then .ld0 else .ld1

/-- V2_CAPABLE = FLAGS[1], for the configure/join opcodes (43 R173). -/
def flagV2 (c : Config) (op : Half) (s : State) : State :=
  if bodyKind c op = .configureJoin then
    { s with r := { s.r with v2Capable := s.r.flags.extractLsb' 1 1 } }.setV .lecFlagV2
  else s

/-- REMOTE = FLAGS[0], for ARP_REQUEST and ARP_RESPONSE, not for NARP (43 R173). -/
def flagRemote (c : Config) (op : Half) (s : State) : State :=
  if opclass c op = 10 ∨ opclass c op = 11 then
    { s with r := { s.r with remote := s.r.flags.extractLsb' 0 1 } }.setV .lecFlagRemote
  else s

/-- `flag_bits(op)` (43 R173). -/
def flagBits (c : Config) (op : Half) (s : State) : State := flagRemote c op (flagV2 c op s)

/-- The response indicator, opcode bit 8 (30 R89). -/
def isResponse (op : Half) : Bool := op.getLsbD 8

/-- `irq = STATUS.DONE AND CTRL.IRQ_EN` (60 R267). -/
def State.irq (s : State) : Bool := s.done && s.irqEn

end Sys2Proof.Machine
end

