-- ==== Sys2Proof/Machine/Ops.lean ====
section
/-! DEFINITION. Ops: the packet buffer (20_memory R60), the read primitives (00_scope R8), the result writes of
00_scope R9, job start (10_state R31), job end and the raise of an error (60 R263: the machine's trap entry, one shared
operation), and reset (70 R280). -/

namespace Sys2Proof.Machine

open Sys2Proof

/-! The packet buffer. -/

/-- The byte written at an offset since power-on, if one was. -/
def Memory.lookup : Memory → Nat → Option Byte
  | [], _ => none
  | (a, b) :: m, o => if a = o then some b else Memory.lookup m o

/-- What an offset reads as: the byte last written there, or any value if nothing was written since power-on
(10_state R49; DESIGN CHOICE, log entry 1), the same in every engine (DESIGN CHOICE, log entry 24). -/
def Memory.read (m : Memory) (o : Nat) : Byte := (Memory.lookup m o).getD (Config.powerOnByte o)

/-- A byte written, the list kept strictly rising. -/
def Memory.write : Memory → Nat → Byte → Memory
  | [], o, b => [(o, b)]
  | (a, x) :: m, o, b =>
    if o < a then (o, b) :: (a, x) :: m
    else if o = a then (o, b) :: m
    else (a, x) :: Memory.write m o b

/-- Bytes written from an offset on. -/
def Memory.writeAll : Memory → Nat → List Byte → Memory
  | m, _, [] => m
  | m, o, b :: bs => Memory.writeAll (Memory.write m o b) (o + 1) bs

/-- Every address is above `lo`, and they rise strictly. -/
def Memory.rising : Nat → Memory → Bool
  | _, [] => true
  | lo, (a, _) :: m => decide (lo ≤ a) && Memory.rising (a + 1) m

/-- The canonical form: addresses strictly rising, all inside a buffer of BUF_CAP bytes (20_memory R60). -/
def Memory.wfIn (c : Config) (m : Memory) : Bool := Memory.rising 0 m && m.all (fun cell => decide (cell.1 < c.bufCap))

/-- The canonical form in this spec's block. -/
def Memory.wf (m : Memory) : Bool := m.wfIn Config.aldb

/-- `n` bytes from an offset on. -/
def Memory.bytes (m : Memory) : Nat → Nat → List Byte
  | _, 0 => []
  | o, n + 1 => Memory.read m o :: Memory.bytes m (o + 1) n

/-! The decode steps: a computation on the state that ends early when it raises. -/

/-- What a `raise` carries: the kind, the unit and the offset (00_scope R9, 60 R263). -/
structure JobError where
  kind : ErrKind
  unit : ErrUnit
  off : Nat
deriving DecidableEq, Repr

/-- A decode step: it goes on with a value, or raises; what it wrote before a raise stays (60 R263). -/
abbrev Dec := EStateM JobError State

/-- `raise E(o)` in unit U (60 R263). -/
def raiseIn {α : Type} (u : ErrUnit) (k : ErrKind) (o : Nat) : Dec α := fun s => .error ⟨k, u, o⟩ s

/-- A step that only writes. -/
def put' (g : State → State) : Dec Unit := fun s => .ok () (g s)

/-- `MemRead(addr, n)` (00_scope R8): checked against LIM, then the unsigned big-endian integer. -/
def memRead (u : ErrUnit) (o n : Nat) : Dec Nat := fun s =>
  if o + n ≤ s.lim then .ok (beNat (Memory.bytes s.buf o n)) s else .error ⟨.truncatedBuffer, u, o⟩ s

/-- `MemBytes(addr, n)` (00_scope R8): the same check, then the byte sequence. -/
def memBytes (u : ErrUnit) (o n : Nat) : Dec (List Byte) := fun s =>
  if o + n ≤ s.lim then .ok (Memory.bytes s.buf o n) s else .error ⟨.truncatedBuffer, u, o⟩ s

/-- `cur <- o` (00_scope R9). -/
def setCur (o : Nat) : Dec Unit := put' fun s => { s with cur := o }

/-- `Skip(n)` (00_scope R8): the cursor advances, with no read and no check. -/
def skip (n : Nat) : Dec Unit := put' fun s => { s with cur := s.cur + n }

/-- `R.<FIELD> <- v` and `V.<BIT> <- 1` (00_scope R9). -/
def putField (g : Record → Record) (b : VBit) : Dec Unit := put' fun s => ({ s with r := g s.r }).setV b

/-- One named integer field (44 R210, 43 R170): read at `o`, written with its valid bit, the cursor at its end. -/
def readField (u : ErrUnit) (o n : Nat) (b : VBit) (g : Nat → Record → Record) : Dec Nat := do
  let v ← memRead u o n
  putField (g v) b
  setCur (o + n)
  pure v

/-- `dispatch(T, off, len)` (00_scope R9, 10_state R44). -/
def dispatch (t : Target) (off len : Nat) : Dec Unit :=
  putField (fun r => { r with
    dispTarget := t, dispOff := BitVec.ofNat 32 off, dispLen := BitVec.ofNat 32 len }) .disp

/-- A call in tail position: the engine enters that unit at its next step (DESIGN CHOICE, log entry 6). -/
def enter (u : EngineUnit) : Dec Unit := put' fun s => { s with unit := u }

/-! Job start, job end, reset. -/

/-- `end()` (60 R263): DONE is set and the engine is IDLE; the next START enters `job()`. -/
def State.endJob (s : State) : State := { s with done := true, phase := .idle, unit := .job }

/-- Taking an error (60 R263, "trap entry"): its code, unit and offset are recorded, and the job ends. -/
def State.takeError (s : State) (e : JobError) : State :=
  ({ s with errCode := e.kind, errUnit := e.unit, errOffset := BitVec.ofNat 32 e.off }).endJob

/-- The return from a job end (60 R268): the host clears DONE; nothing else changes. -/
def State.clearDone (s : State) : State := { s with done := false }

/-- `finish()` (00_scope R9, 60 R263). -/
def finish : Dec Unit := put' State.endJob

/-- The state a decode step leaves: a raise ends the job (60 R263). -/
def settle (x : EStateM.Result JobError State Unit) : State :=
  match x with
  | .ok _ s => s
  | .error e s => s.takeError e

/-- A row run: always a next state, since an error of the job is one (60 R263). -/
def runRow (m : Dec Unit) (s : State) : Host.Outcome State Fault Refusal := .next (settle (m s))

/-- What START does in one step (10_state R31): the descriptor latched, the record and the status cleared, BUSY, and
the engine about to enter `job()` (60 R260). -/
def State.start (s : State) : State :=
  { s with
    dl := latchOf s.desc, r := Record.zero, valid := 0, done := false, errCode := .none, errUnit := .none,
    errOffset := 0, phase := .busy, cur := 0, unit := .job }

/-- SOFT_RESET (70 R280): every register at its reset value, the engine IDLE, a running job aborted; the packet
buffer stays, and so do the model's own port fields (DESIGN CHOICE, log entry 15). -/
def State.softReset (s : State) : State :=
  { State.reset with buf := s.buf, port := s.port, rdata := s.rdata, bdata := s.bdata, freeCount := s.freeCount }

end Sys2Proof.Machine
end

