-- ==== Sys2Proof/Machine/CellHeader.lean ====
section
/-! DEFINITION. CellHeader: the cell-header parser (41_cell_header). -/

namespace Sys2Proof.Machine

open Sys2Proof

/-- `decode_cell_header()` (41 R140): one 5-byte read, all or nothing; the HEC is reported, not checked (R146). -/
def decodeCellHeader (c : Config) : Dec Unit := do
  let h ← memRead .cellHeader 0 5
  putField (unpackHeader c h) .hdr
  setCur 5

/-- HDR_UNPACK (41 R140), as an instruction of its own: the sub-operation alone, which returns to its caller. -/
def execHdrUnpack (s : State) : Host.Outcome State Fault Refusal := runRow (decodeCellHeader Config.aldb) s

end Sys2Proof.Machine
end

