-- ==== Sys2Proof/Machine/Jobs.lean ====
section
/-! DEFINITION. Jobs: the four job kinds (40_job_dispatch R120 to R124, 42_aal5_trailer R150 to R161). Each runs the
opening of `job()` (R120) first; the PDU kinds end in the call `pdu_dispatch(0, ...)`. -/

namespace Sys2Proof.Machine

open Sys2Proof

/-- The opening of `job()` (40 R120, 60 R264): BadDescriptor before every read, then LIM and the cursor. -/
def jobEnter (c : Config) : Dec Unit := fun s =>
  if c.bufCap < s.dl.l.toNat then .error ⟨.badDescriptor, .job, 0⟩ s
  else .ok () { s with lim := s.dl.l.toNat, cur := 0 }

/-- The cell path's target (40 R122, R123; 30 R81). -/
def cellTarget (c : Config) (aal : BitVec 8) : Target :=
  if aal = c.codes.aal1 ∨ aal = c.codes.aal34 ∨ aal = c.codes.oam then .aalCellBody else .raw

/-- The cell path's dispatch of `[5, L)` (40 R122). -/
def cellDispatch (c : Config) : Dec Unit := fun s =>
  dispatch (cellTarget c s.dl.aal) 5 (s.dl.l.toNat - 5) s

/-- `cell_path()` (40 R122). -/
def cellPath (c : Config) : Dec Unit := do
  decodeCellHeader c
  cellDispatch c
  finish

/-- The trailer and the cell count taken from the metadata, when there is one (42 R151). -/
def metaTrailer (s : State) : State :=
  if s.dl.cellCount = 0 then s
  else
    (({ s with r := { s.r with
        a5Cells := s.dl.cellCount, cellsSrc := 0, uu := s.dl.metaUu, cpi := s.dl.metaCpi, len := s.dl.metaLen,
        crc := s.dl.metaCrc, trailerSrc := 1 } }).setV .a5Cells).setV .a5Trailer

/-- `pdu_trunc()` (42 R151): no buffer access; the whole captured buffer goes downward (D15). -/
def pduTrunc : Dec Unit := fun s => enter (.pdu 0 s.dl.l) (metaTrailer s)

/-- The check `L < 8` (42 R157), before any trailer byte is read. -/
def tailFits : Dec Unit := fun s => if s.dl.l.toNat < 8 then raiseIn .aal5 .truncatedBuffer 0 s else .ok () s

/-- The trailer read from the buffer's last 8 bytes (42 R152, R153). -/
def tailTrailer (l : Nat) : Dec Unit := do
  let w ← memRead .aal5 (l - 8) 2
  put' fun s => { s with r := { s.r with uu := trailerUu w, cpi := trailerCpi w } }
  let len ← memRead .aal5 (l - 6) 2
  put' fun s => { s with r := { s.r with len := BitVec.ofNat 16 len } }
  let crc ← memRead .aal5 (l - 4) 4
  putField (fun r => { r with crc := BitVec.ofNat 32 crc, trailerSrc := 0 }) .a5Trailer

/-- The inferred cell count RL/48, when 48 divides RL (42 R159). -/
def inferCells (c : Config) (s : State) : State :=
  if s.dl.rl.toNat % c.cellPayload = 0 then
    ({ s with r := { s.r with a5Cells := BitVec.ofNat 32 (s.dl.rl.toNat / c.cellPayload), cellsSrc := 1 } }).setV .a5Cells
  else s

/-- The length check (42 R154), then the padding report (R155). -/
def tailLength (l : Nat) : Dec Unit := fun s =>
  if l - 8 < s.r.len.toNat then raiseIn .aal5 .malformedLength (l - 6) s
  else if s.r.len.toNat < l - 8 then
    putField (fun r => { r with
      padOff := BitVec.ofNat 32 r.len.toNat, padLen := BitVec.ofNat 32 (l - 8 - r.len.toNat) }) .a5Pad s
  else .ok () s

/-- The call `pdu_dispatch(0, R.LEN)` (42 R152). -/
def tailDispatch : Dec Unit := fun s => enter (.pdu 0 (s.r.len.setWidth 32)) s

/-- `pdu_tail()` (42 R152) of a captured length `l`. -/
def pduTail (c : Config) (l : Nat) : Dec Unit := do
  tailFits
  tailTrailer l
  put' (inferCells c)
  tailLength l
  tailDispatch

/-- `pdu_cut()` (42 R156): no trailer fields; the whole captured buffer goes downward (D15). -/
def pduCut : Dec Unit := fun s => enter (.pdu 0 s.dl.l) s

/-- `job()` on the cell path (40 R120, R122). -/
def jobCell (c : Config) : Dec Unit := do
  jobEnter c
  cellPath c

/-- `job()` on the truncated-PDU path (40 R120, 42 R151). -/
def jobPduTrunc (c : Config) : Dec Unit := do
  jobEnter c
  pduTrunc

/-- `job()` on the whole-PDU path (40 R120, 42 R152). -/
def jobPduTail (c : Config) : Dec Unit := fun s =>
  (do
    jobEnter c
    pduTail c s.dl.l.toNat) s

/-- `job()` on the cut-PDU path (40 R120, 42 R156). -/
def jobPduCut (c : Config) : Dec Unit := do
  jobEnter c
  pduCut

/-- JOB_CELL (40 R122). -/
def execJobCell (s : State) : Host.Outcome State Fault Refusal := runRow (jobCell Config.aldb) s

/-- JOB_PDU_TRUNC (42 R151). -/
def execJobPduTrunc (s : State) : Host.Outcome State Fault Refusal := runRow (jobPduTrunc Config.aldb) s

/-- JOB_PDU_TAIL (42 R152). -/
def execJobPduTail (s : State) : Host.Outcome State Fault Refusal := runRow (jobPduTail Config.aldb) s

/-- JOB_PDU_CUT (42 R156). -/
def execJobPduCut (s : State) : Host.Outcome State Fault Refusal := runRow (jobPduCut Config.aldb) s

end Sys2Proof.Machine
end

