-- ==== Sys2Proof/Machine/Lane.lean ====
section
/-! DEFINITION. Lane: PDU dispatch (40_job_dispatch R125 to R129) and the LANE subtypes (R130 to R134). -/

namespace Sys2Proof.Machine

open Sys2Proof

/-- A dispatch to an external target that ends the job (40 R125: the case, then `finish()`). -/
def handOn (t : Target) (po pl : Nat) : Dec Unit := do
  dispatch t po pl
  finish

/-- `lane(PO, PL)` up to its case (40 R130): LIM becomes the slice's end, the cursor its start. -/
def laneSplit (po pl : Word) : Dec Unit := do
  put' fun s => { s with lim := po.toNat + pl.toNat, cur := po.toNat }
  enter (.lane po pl)

/-- An 802.3 or 802.5 frame (40 R131, R132): the 2-byte LE client id stripped and reported, the rest handed on. -/
def laneData (t : Target) (po pl : Nat) : Dec Unit := do
  let _ ← readField .laneDispatch po 2 .laneClient (fun v r => { r with laneClient := BitVec.ofNat 16 v })
  dispatch t (po + 2) (pl - 2)
  finish

/-- `lane_le_control(PO, PL)` (40 R134): the dispatch result, then `le_control(PO)`. -/
def laneLe (po pl : Word) : Dec Unit := do
  dispatch .leControl po.toNat pl.toNat
  enter (.lec po)

/-- PDU_SSCOP (40 R126). -/
def execPduSscop (po pl : Word) (s : State) : Host.Outcome State Fault Refusal :=
  runRow (handOn .sscop po.toNat pl.toNat) s

/-- PDU_LLC (40 R127). -/
def execPduLlc (po pl : Word) (s : State) : Host.Outcome State Fault Refusal :=
  runRow (handOn .llc po.toNat pl.toNat) s

/-- PDU_LANE (40 R130). -/
def execPduLane (po pl : Word) (s : State) : Host.Outcome State Fault Refusal := runRow (laneSplit po pl) s

/-- PDU_ILMI (40 R128). -/
def execPduIlmi (po pl : Word) (s : State) : Host.Outcome State Fault Refusal :=
  runRow (handOn .ilmi po.toNat pl.toNat) s

/-- PDU_RAW (40 R129): the traffic type is not reported. -/
def execPduRaw (_tt : BitVec 8) (po pl : Word) (s : State) : Host.Outcome State Fault Refusal :=
  runRow (handOn .raw po.toNat pl.toNat) s

/-- LANE_LE_CONTROL (40 R134). -/
def execLaneLeControl (po pl : Word) (s : State) : Host.Outcome State Fault Refusal := runRow (laneLe po pl) s

/-- LANE_8023 (40 R131). -/
def execLane8023 (po pl : Word) (s : State) : Host.Outcome State Fault Refusal :=
  runRow (laneData .ethernet po.toNat pl.toNat) s

/-- LANE_8025 (40 R132). -/
def execLane8025 (po pl : Word) (s : State) : Host.Outcome State Fault Refusal :=
  runRow (laneData .tokenRing po.toNat pl.toNat) s

/-- LANE_8023_MC (40 R131, multicast). -/
def execLane8023Mc (po pl : Word) (s : State) : Host.Outcome State Fault Refusal :=
  runRow (laneData .ethernet po.toNat pl.toNat) s

/-- LANE_8025_MC (40 R132, multicast). -/
def execLane8025Mc (po pl : Word) (s : State) : Host.Outcome State Fault Refusal :=
  runRow (laneData .tokenRing po.toNat pl.toNat) s

/-- LANE_RAW (40 R133): no prefix is stripped. -/
def execLaneRaw (_st : BitVec 8) (po pl : Word) (s : State) : Host.Outcome State Fault Refusal :=
  runRow (handOn .raw po.toNat pl.toNat) s

end Sys2Proof.Machine
end

