-- ==== Sys2Proof/Machine/LanTlv.lean ====
section
/-! DEFINITION. LanTlv: the LAN-destination decoder (45_lan_dest_tlv R240 to R244) and the TLV walker (R245 to R249). -/

namespace Sys2Proof.Machine

open Sys2Proof

/-- The write of a decoded LAN destination into slot `i`, its valid bit, and the cursor (45 R240, R244). -/
def ldWrite (d i : Nat) (g : LanDest → LanDest) : Dec Unit := do
  putField (fun r => r.setLd i (g (r.ld i))) (ldBit i)
  setCur (d + 8)

/-- The form of a tag (45 R241 to R243). -/
def ldForm (c : Config) (d i tag : Nat) : Dec Unit :=
  if BitVec.ofNat 16 tag = c.ldTagMac then do
    let mac ← memRead .lanDest (d + 2) 6
    ldWrite d i fun v => { v with tag := BitVec.ofNat 16 tag, kind := .macAddress, mac := BitVec.ofNat 48 mac }
  else if BitVec.ofNat 16 tag = c.ldTagRoute then do
    let w ← memRead .lanDest (d + 6) 2
    ldWrite d i fun v => { v with
      tag := BitVec.ofNat 16 tag, kind := .routeDescriptor, lanId := routeLanId w, bridge := routeBridge w }
  else ldWrite d i fun v => { v with tag := BitVec.ofNat 16 tag, kind := .notPresent }

/-- `lan_dest(d, i)` (45 R240): the slot is all or nothing. -/
def lanDest (c : Config) (d i : Nat) : Dec Unit := do
  let tag ← memRead .lanDest d 2
  ldForm c d i tag

/-- An entry's value is inside the record, or MalformedLength at its length byte (45 R246). -/
def tlvFits (t len : Nat) : Dec Unit := fun s =>
  if s.lim < t + 5 + len then raiseIn .tlv .malformedLength (t + 4) s else .ok () s

/-- One entry decoded in full: its record, TLVS_DONE and the cursor (45 R245). -/
def tlvRecord (k t typ len : Nat) : Dec Unit := put' fun s =>
  { s with
    r := { s.r with
      tlvs := tlvPut s.r.tlvs k ⟨BitVec.ofNat 32 typ, BitVec.ofNat 8 len, BitVec.ofNat 32 (t + 5)⟩
      tlvsDone := BitVec.ofNat 9 (k + 1) }
    cur := t + 5 + len }

/-- The loop of `tlv_walk` (45 R245): `n` more entries, the first of them entry `k` at `t`. -/
def tlvLoop : Nat → Nat → Nat → Dec Unit
  | 0, _, _ => pure ()
  | n + 1, k, t => do
    let typ ← memRead .tlv t 4
    let len ← memRead .tlv (t + 4) 1
    tlvFits t len
    tlvRecord k t typ len
    tlvLoop n (k + 1) (t + 5 + len)

/-- `tlv_walk(o, n)` (45 R245): V.TLVS is set at the start, also when `n = 0`. -/
def tlvRun (o n : Nat) : Dec Unit := do
  putField (fun r => { r with tlvsDone := 0 }) .tlvs
  setCur o
  tlvLoop n 0 o

/-- `tlv_walk(o, n)`, after which the job ends (43 R170: return, then `finish()`). -/
def tlvWalkEnd (o n : Nat) : Dec Unit := do
  tlvRun o n
  finish

/-- LD_DECODE (45 R240), as an instruction of its own: the sub-operation alone, which returns to its caller. -/
def execLdDecode (d : Word) (slot : BitVec 8) (s : State) : Host.Outcome State Fault Refusal :=
  runRow (lanDest Config.aldb d.toNat slot.toNat) s

/-- TLV_WALK (45 R245), the last act of an LE Control body. -/
def execTlvWalk (o : Word) (n : BitVec 8) (s : State) : Host.Outcome State Fault Refusal :=
  runRow (tlvWalkEnd o.toNat n.toNat) s

end Sys2Proof.Machine
end

