-- ==== Sys2Proof/Machine/LeBody.lean ====
section
/-! DEFINITION. LeBody: the LE Control body decoders (44_le_bodies). Each handles its fields in layout order (R210); those
with TLVs end in the call `tlv_walk(F+108, n)`. -/

namespace Sys2Proof.Machine

open Sys2Proof

/-- `R.ATM0 <- MemBytes(o, 20)` (44 R210, R222). -/
def readAtm0 (o : Nat) : Dec Unit := do
  let bs ← memBytes .leBody o 20
  putField (fun r => { r with atm0 := packAtm bs }) .atm0
  setCur (o + 20)

/-- `R.ATM1 <- MemBytes(o, 20)` (44 R210, R222). -/
def readAtm1 (o : Nat) : Dec Unit := do
  let bs ← memBytes .leBody o 20
  putField (fun r => { r with atm1 := packAtm bs }) .atm1
  setCur (o + 20)

/-- `n <- MemRead(o, 1) ; R.NUM_TLVS <- n` (44 R211). -/
def readNumTlvs (o : Nat) : Dec Nat :=
  readField .leBody o 1 .numTlvs (fun v r => { r with numTlvs := BitVec.ofNat 8 v })

/-- The two LAN destinations and the first ATM address, `F+16 .. F+51` (44 R211, R213, R215, R219). -/
def bodyHead (c : Config) (f : Nat) : Dec Unit := do
  lanDest c (f + 16) 0
  lanDest c (f + 24) 1
  readAtm0 (f + 32)

/-- LAN type, max frame size, TLV count and name size at `o .. o+3` (44 R211); it answers the count. -/
def cjScalars (c : Config) (o : Nat) : Dec Nat := do
  let _ ← readField .leBody o 1 .cjLanType (fun v r => { r with lanType := BitVec.ofNat 8 v })
  let _ ← readField .leBody (o + 1) 1 .cjMaxFrame (fun v r => { r with maxFrame := BitVec.ofNat 8 v })
  let n ← readNumTlvs (o + 2)
  let _ ← readField .leBody (o + 3) 1 .cjNameSize
    (fun v r => { r with nameSize := BitVec.ofNat 8 v, nameLen := nameLenOf c v })
  pure n

/-- The fields between ATM0 and the name slot, in the order CJ_LAYOUT says (44 R211; 30 R90, R91). -/
def cjMiddle (c : Config) (f : Nat) : Dec Nat :=
  match c.cjLayout with
  | .doc => do
    readAtm1 (f + 52)
    cjScalars c (f + 72)
  | .standard => do
    let n ← cjScalars c (f + 52)
    readAtm1 (f + 56)
    pure n

/-- The name's bytes, if it has any (44 R212). -/
def readName (o : Nat) : Dec Unit := fun s =>
  if 0 < s.r.nameLen.toNat then
    (do
      let bs ← memBytes .leBody o s.r.nameLen.toNat
      put' fun t => { t with r := { t.r with name := packName bs } }) s
  else .ok () s

/-- `elan_name(o)` (44 R212): V.CJ_NAME is set also for an empty name; the slot is always consumed whole (30 R105). -/
def elanName (c : Config) (o : Nat) : Dec Unit := do
  readName o
  putField id .cjName
  setCur (o + c.elanNameMax)

/-- The call `tlv_walk(F+108, n)` (44 R210). -/
def enterTlvs (f n : Nat) : Dec Unit := enter (.tlv (BitVec.ofNat 32 (f + 108)) (BitVec.ofNat 8 n))

/-- `cj_body(F)` (44 R211). -/
def cjBody (c : Config) (f : Nat) : Dec Unit := do
  bodyHead c f
  let n ← cjMiddle c f
  elanName c (f + 76)
  setCur (f + 108)
  enterTlvs f n

/-- `reg_body(F)` (44 R213). -/
def regBody (c : Config) (f : Nat) : Dec Unit := do
  bodyHead c f
  skip 2
  let n ← readNumTlvs (f + 54)
  skip 53
  enterTlvs f n

/-- `arp_body(F)` (44 R215). -/
def arpBody (c : Config) (f : Nat) : Dec Unit := do
  bodyHead c f
  skip 2
  let n ← readNumTlvs (f + 54)
  skip 1
  readAtm1 (f + 56)
  skip 32
  enterTlvs f n

/-- `verify_body(F)` (44 R217). -/
def verifyBody (f : Nat) : Dec Unit := do
  skip 38
  let n ← readNumTlvs (f + 54)
  skip 1
  readAtm1 (f + 56)
  skip 32
  enterTlvs f n

/-- `flush_body(F)` (44 R219): no TLVs, so the job ends after it (43 R170). -/
def flushBody (c : Config) (f : Nat) : Dec Unit := do
  bodyHead c f
  skip 4
  readAtm1 (f + 56)
  skip 32
  finish

/-- CJ_BODY (44 R211). -/
def execCjBody (f : Word) (s : State) : Host.Outcome State Fault Refusal := runRow (cjBody Config.aldb f.toNat) s

/-- REG_BODY (44 R213). -/
def execRegBody (f : Word) (s : State) : Host.Outcome State Fault Refusal := runRow (regBody Config.aldb f.toNat) s

/-- ARP_BODY (44 R215). -/
def execArpBody (f : Word) (s : State) : Host.Outcome State Fault Refusal := runRow (arpBody Config.aldb f.toNat) s

/-- VERIFY_BODY (44 R217). -/
def execVerifyBody (f : Word) (s : State) : Host.Outcome State Fault Refusal := runRow (verifyBody f.toNat) s

/-- FLUSH_BODY (44 R219). -/
def execFlushBody (f : Word) (s : State) : Host.Outcome State Fault Refusal := runRow (flushBody Config.aldb f.toNat) s

end Sys2Proof.Machine
end

