-- ==== Sys2Proof/Machine/LeControl.lean ====
section
/-! DEFINITION. LeControl: the LE Control frame decoder (43_le_control R170 to R193): the header's state machine, and one
row per opcode. A row whose opcode selects a body ends in the call of that body. -/

namespace Sys2Proof.Machine

open Sys2Proof

/-- S_MARKER to S_OPCODE (43 R170): the states every frame runs. The opcode is the row's own (DEDUCED, log entry 9). -/
def leOpening (c : Config) (f : Nat) (op : Half) : Dec Unit := do
  let _ ← readField .leControl f 2 .lecMarker (fun v r => { r with marker := BitVec.ofNat 16 v })
  let _ ← readField .leControl (f + 2) 1 .lecProtocol (fun v r => { r with protocol := BitVec.ofNat 8 v })
  let _ ← readField .leControl (f + 3) 1 .lecVersion (fun v r => { r with version := BitVec.ofNat 8 v })
  let _ ← readField .leControl (f + 4) 2 .lecOpcode
    (fun _ r => { r with opcode := op, opclass := BitVec.ofNat 5 (opclass c op) })
  pure ()

/-- S_STATUS (43 R172): the slot is read and passed for every opcode, reported only for a response. -/
def leStatus (f : Nat) (op : Half) : Dec Unit := do
  let v ← memRead .leControl (f + 6) 2
  if isResponse op then putField (fun r => { r with status := BitVec.ofNat 16 v }) .lecStatus else pure ()
  setCur (f + 8)

/-- S_STATUS to S_FLAGS (43 R170). -/
def leFields (c : Config) (f : Nat) (op : Half) : Dec Unit := do
  leStatus f op
  let _ ← readField .leControl (f + 8) 4 .lecTransId (fun v r => { r with transId := BitVec.ofNat 32 v })
  let _ ← readField .leControl (f + 12) 2 .lecReqLecId (fun v r => { r with reqLecId := BitVec.ofNat 16 v })
  let _ ← readField .leControl (f + 14) 2 .lecFlags (fun v r => { r with flags := BitVec.ofNat 16 v })
  put' (flagBits c op)
  setCur (f + 16)

/-- What follows the body kind's choice (43 R170, S_BODY): its decoder, or the job's end (44 R221). -/
def leEnter (k : BodyKind) (f : Word) : Dec Unit :=
  match k with
  | .none | .topology => finish
  | .configureJoin | .registration | .arp | .verify | .flush => enter (.body f)

/-- S_BODY (43 R170). -/
def leBody (c : Config) (f : Word) (op : Half) : Dec Unit := do
  putField (fun r => { r with body := bodyKind c op }) .lecBody
  leEnter (bodyKind c op) f

/-- READY_QUERY and READY_IND end the decode after the opcode (43 R174, R175). -/
def isReady (c : Config) (op : Half) : Bool := opclass c op == 4 || opclass c op == 5

/-- `le_control(F)` (43 R170) for the opcode `op`. -/
def leControl (c : Config) (f : Word) (op : Half) : Dec Unit := do
  leOpening c f.toNat op
  if isReady c op then finish
  else do
    leFields c f.toNat op
    leBody c f op

/-- The row of OPCLASS `k`: `le_control(F)` for that class's own opcode value (30_encoding R97; DEDUCED, log entry 9). -/
def leRow (c : Config) (k : Nat) (f : Word) : Dec Unit := leControl c f (leValue c k)

/-- `le_control(F)` in a frame that ends before its opcode: the states from S_MARKER on, one of whose reads raises (43
R174, Exceptions; DEDUCED, log entry 18). -/
def leShort (c : Config) (f : Word) : Dec Unit := leOpening c f.toNat 0

/-- CONFIGURE_REQUEST (43 R176), OPCLASS 0. -/
def execConfigureRequest (f : Word) (s : State) : Host.Outcome State Fault Refusal := runRow (leRow Config.aldb 0 f) s

/-- CONFIGURE_RESPONSE (43 R177), OPCLASS 1. -/
def execConfigureResponse (f : Word) (s : State) : Host.Outcome State Fault Refusal := runRow (leRow Config.aldb 1 f) s

/-- JOIN_REQUEST (43 R178), OPCLASS 2. -/
def execJoinRequest (f : Word) (s : State) : Host.Outcome State Fault Refusal := runRow (leRow Config.aldb 2 f) s

/-- JOIN_RESPONSE (43 R179), OPCLASS 3. -/
def execJoinResponse (f : Word) (s : State) : Host.Outcome State Fault Refusal := runRow (leRow Config.aldb 3 f) s

/-- READY_QUERY (43 R174), OPCLASS 4. -/
def execReadyQuery (f : Word) (s : State) : Host.Outcome State Fault Refusal := runRow (leRow Config.aldb 4 f) s

/-- READY_IND (43 R175), OPCLASS 5. -/
def execReadyInd (f : Word) (s : State) : Host.Outcome State Fault Refusal := runRow (leRow Config.aldb 5 f) s

/-- REGISTER_REQUEST (43 R180), OPCLASS 6. -/
def execRegisterRequest (f : Word) (s : State) : Host.Outcome State Fault Refusal := runRow (leRow Config.aldb 6 f) s

/-- REGISTER_RESPONSE (43 R181), OPCLASS 7. -/
def execRegisterResponse (f : Word) (s : State) : Host.Outcome State Fault Refusal := runRow (leRow Config.aldb 7 f) s

/-- UNREGISTER_REQUEST (43 R182), OPCLASS 8. -/
def execUnregisterRequest (f : Word) (s : State) : Host.Outcome State Fault Refusal := runRow (leRow Config.aldb 8 f) s

/-- UNREGISTER_RESPONSE (43 R183), OPCLASS 9. -/
def execUnregisterResponse (f : Word) (s : State) : Host.Outcome State Fault Refusal := runRow (leRow Config.aldb 9 f) s

/-- ARP_REQUEST (43 R184), OPCLASS 10. -/
def execArpRequest (f : Word) (s : State) : Host.Outcome State Fault Refusal := runRow (leRow Config.aldb 10 f) s

/-- ARP_RESPONSE (43 R185), OPCLASS 11. -/
def execArpResponse (f : Word) (s : State) : Host.Outcome State Fault Refusal := runRow (leRow Config.aldb 11 f) s

/-- FLUSH_REQUEST (43 R186), OPCLASS 12. -/
def execFlushRequest (f : Word) (s : State) : Host.Outcome State Fault Refusal := runRow (leRow Config.aldb 12 f) s

/-- FLUSH_RESPONSE (43 R187), OPCLASS 13. -/
def execFlushResponse (f : Word) (s : State) : Host.Outcome State Fault Refusal := runRow (leRow Config.aldb 13 f) s

/-- NARP_REQUEST (43 R188), OPCLASS 14. -/
def execNarpRequest (f : Word) (s : State) : Host.Outcome State Fault Refusal := runRow (leRow Config.aldb 14 f) s

/-- TOPOLOGY_REQUEST (43 R189), OPCLASS 15. -/
def execTopologyRequest (f : Word) (s : State) : Host.Outcome State Fault Refusal := runRow (leRow Config.aldb 15 f) s

/-- VERIFY_REQUEST (43 R190), OPCLASS 16. -/
def execVerifyRequest (f : Word) (s : State) : Host.Outcome State Fault Refusal := runRow (leRow Config.aldb 16 f) s

/-- VERIFY_RESPONSE (43 R191), OPCLASS 17. -/
def execVerifyResponse (f : Word) (s : State) : Host.Outcome State Fault Refusal := runRow (leRow Config.aldb 17 f) s

/-- LEC_UNKNOWN (43 R192): the full header with no body, whatever the opcode. -/
def execLecUnknown (op : Half) (f : Word) (s : State) : Host.Outcome State Fault Refusal :=
  runRow (leControl Config.aldb f op) s

end Sys2Proof.Machine
end

