-- ==== Sys2Proof/Machine/Dispatch.lean ====
section
/-! DEFINITION. Dispatch: each row of the opcode table to its meaning. -/

namespace Sys2Proof.Machine

open Sys2Proof

/-- One arm per row of spec/opcode_table.json. -/
def exec (i : Instr) (s : State) : Host.Outcome State Fault Refusal :=
  match i with
  | .jobCell => Sys2Proof.Machine.execJobCell s
  | .jobPduTrunc => Sys2Proof.Machine.execJobPduTrunc s
  | .jobPduTail => Sys2Proof.Machine.execJobPduTail s
  | .jobPduCut => Sys2Proof.Machine.execJobPduCut s
  | .pduSscop po pl => Sys2Proof.Machine.execPduSscop po pl s
  | .pduLlc po pl => Sys2Proof.Machine.execPduLlc po pl s
  | .pduLane po pl => Sys2Proof.Machine.execPduLane po pl s
  | .pduIlmi po pl => Sys2Proof.Machine.execPduIlmi po pl s
  | .pduRaw tt po pl => Sys2Proof.Machine.execPduRaw tt po pl s
  | .laneLeControl po pl => Sys2Proof.Machine.execLaneLeControl po pl s
  | .lane8023 po pl => Sys2Proof.Machine.execLane8023 po pl s
  | .lane8025 po pl => Sys2Proof.Machine.execLane8025 po pl s
  | .lane8023Mc po pl => Sys2Proof.Machine.execLane8023Mc po pl s
  | .lane8025Mc po pl => Sys2Proof.Machine.execLane8025Mc po pl s
  | .laneRaw st po pl => Sys2Proof.Machine.execLaneRaw st po pl s
  | .configureRequest f => Sys2Proof.Machine.execConfigureRequest f s
  | .configureResponse f => Sys2Proof.Machine.execConfigureResponse f s
  | .joinRequest f => Sys2Proof.Machine.execJoinRequest f s
  | .joinResponse f => Sys2Proof.Machine.execJoinResponse f s
  | .readyQuery f => Sys2Proof.Machine.execReadyQuery f s
  | .readyInd f => Sys2Proof.Machine.execReadyInd f s
  | .registerRequest f => Sys2Proof.Machine.execRegisterRequest f s
  | .registerResponse f => Sys2Proof.Machine.execRegisterResponse f s
  | .unregisterRequest f => Sys2Proof.Machine.execUnregisterRequest f s
  | .unregisterResponse f => Sys2Proof.Machine.execUnregisterResponse f s
  | .arpRequest f => Sys2Proof.Machine.execArpRequest f s
  | .arpResponse f => Sys2Proof.Machine.execArpResponse f s
  | .flushRequest f => Sys2Proof.Machine.execFlushRequest f s
  | .flushResponse f => Sys2Proof.Machine.execFlushResponse f s
  | .narpRequest f => Sys2Proof.Machine.execNarpRequest f s
  | .topologyRequest f => Sys2Proof.Machine.execTopologyRequest f s
  | .verifyRequest f => Sys2Proof.Machine.execVerifyRequest f s
  | .verifyResponse f => Sys2Proof.Machine.execVerifyResponse f s
  | .lecUnknown op f => Sys2Proof.Machine.execLecUnknown op f s
  | .hdrUnpack => Sys2Proof.Machine.execHdrUnpack s
  | .ldDecode d slot => Sys2Proof.Machine.execLdDecode d slot s
  | .tlvWalk o n => Sys2Proof.Machine.execTlvWalk o n s
  | .cjBody f => Sys2Proof.Machine.execCjBody f s
  | .regBody f => Sys2Proof.Machine.execRegBody f s
  | .arpBody f => Sys2Proof.Machine.execArpBody f s
  | .verifyBody f => Sys2Proof.Machine.execVerifyBody f s
  | .flushBody f => Sys2Proof.Machine.execFlushBody f s

end Sys2Proof.Machine
end

