-- ==== Sys2Proof/Machine/Rows.lean ====
section
/-! DEFINITION. Rows: the rows of a block built with any parameters (00_scope R5). `exec` runs the same steps at this spec's
parameters. -/

namespace Sys2Proof.Machine

open Sys2Proof

/-- What a row does in a block built with the parameters `c`. -/
def rowIn (c : Config) : Instr → Dec Unit
  | .jobCell => jobCell c
  | .jobPduTrunc => jobPduTrunc c
  | .jobPduTail => jobPduTail c
  | .jobPduCut => jobPduCut c
  | .pduSscop po pl => handOn .sscop po.toNat pl.toNat
  | .pduLlc po pl => handOn .llc po.toNat pl.toNat
  | .pduLane po pl => laneSplit po pl
  | .pduIlmi po pl => handOn .ilmi po.toNat pl.toNat
  | .pduRaw _ po pl => handOn .raw po.toNat pl.toNat
  | .laneLeControl po pl => laneLe po pl
  | .lane8023 po pl => laneData .ethernet po.toNat pl.toNat
  | .lane8025 po pl => laneData .tokenRing po.toNat pl.toNat
  | .lane8023Mc po pl => laneData .ethernet po.toNat pl.toNat
  | .lane8025Mc po pl => laneData .tokenRing po.toNat pl.toNat
  | .laneRaw _ po pl => handOn .raw po.toNat pl.toNat
  | .configureRequest f => leRow c 0 f
  | .configureResponse f => leRow c 1 f
  | .joinRequest f => leRow c 2 f
  | .joinResponse f => leRow c 3 f
  | .readyQuery f => leRow c 4 f
  | .readyInd f => leRow c 5 f
  | .registerRequest f => leRow c 6 f
  | .registerResponse f => leRow c 7 f
  | .unregisterRequest f => leRow c 8 f
  | .unregisterResponse f => leRow c 9 f
  | .arpRequest f => leRow c 10 f
  | .arpResponse f => leRow c 11 f
  | .flushRequest f => leRow c 12 f
  | .flushResponse f => leRow c 13 f
  | .narpRequest f => leRow c 14 f
  | .topologyRequest f => leRow c 15 f
  | .verifyRequest f => leRow c 16 f
  | .verifyResponse f => leRow c 17 f
  | .lecUnknown op f => leControl c f op
  | .hdrUnpack => decodeCellHeader c
  | .ldDecode d slot => lanDest c d.toNat slot.toNat
  | .tlvWalk o n => tlvWalkEnd o.toNat n.toNat
  | .cjBody f => cjBody c f.toNat
  | .regBody f => regBody c f.toNat
  | .arpBody f => arpBody c f.toNat
  | .verifyBody f => verifyBody f.toNat
  | .flushBody f => flushBody c f.toNat

/-- The meaning of a row in a block built with the parameters `c`. -/
def execIn (c : Config) (i : Instr) (s : State) : Host.Outcome State Fault Refusal := runRow (rowIn c i) s

end Sys2Proof.Machine
end

