-- ==== Sys2Proof/Machine/Fetch.lean ====
section
/-! DEFINITION. Fetch: what selects the row the engine runs next. There is no instruction fetch (20_memory R72): the unit
the engine enters presents its selecting bits, from DL (30 R81 to R84), from the frame's opcode (R97) or from R.BODY
(R98), with that unit's operands. -/

namespace Sys2Proof.Machine

open Sys2Proof

/-- What the engine's unit presents. -/
inductive Fetched where
  /-- A row of the table. -/
  | row (i : Instr)
  /-- An LE Control frame that ends before its opcode (43 R174, Exceptions). -/
  | shortFrame (f : Word)
  /-- A body kind with nothing to decode (44 R221). -/
  | noBody
  /-- Bits that select no row. -/
  | rejected (why : DecodeError)
deriving DecidableEq, Repr

/-- The row that selecting bits name. -/
def fetchRow (c : Config) (fmt : Format) (bs : List Byte) : Fetched :=
  match decodeIn c fmt bs with
  | .ok i => .row i
  | .error e => .rejected e

/-- D_FLAGS as the latch holds it (10_state R28, R31). -/
def latchFlags (dl : Latch) : Word := if dl.truncated then 1 else 0

/-- The opcode bytes at F+4 and F+5, as the frame holds them (30 R88). -/
def opcodeAt (m : Memory) (f : Nat) : List Byte := Memory.bytes m (f + 4) 2

/-- The row of an LE Control frame: its opcode, when that is inside the read limit (43 R170; DEDUCED, log entry 18). -/
def fetchOpcode (c : Config) (s : State) (f : Word) : Fetched :=
  if f.toNat + 6 ≤ s.lim then fetchRow c .lecOpcode (opcodeAt s.buf f.toNat ++ wordBytes f) else .shortFrame f

/-- The body that R.BODY selects (43 R170, S_BODY). -/
def fetchBody (c : Config) (s : State) (f : Word) : Fetched :=
  match s.r.body with
  | .none | .topology => .noBody
  | .configureJoin | .registration | .arp | .verify | .flush =>
    fetchRow c .lecBody (bodyBytes (s.r.body.code.setWidth 8) f)

/-- What the engine of a block built with the parameters `c` runs at its next step (00_scope R5). -/
def fetchIn (c : Config) (s : State) : Fetched :=
  match s.unit with
  | .job => fetchRow c .job (jobBytes s.dl.cls (latchFlags s.dl) s.dl.l s.dl.rl)
  | .pdu po pl => fetchRow c .pduDispatch (sliceBytes s.dl.aal s.dl.trafType s.dl.trafSubtype po pl)
  | .lane po pl => fetchRow c .laneSubtype (sliceBytes s.dl.aal s.dl.trafType s.dl.trafSubtype po pl)
  | .lec f => fetchOpcode c s f
  | .body f => fetchBody c s f
  | .tlv o n => fetchRow c .tlv (wordBytes o ++ [n])

/-- What the engine of this spec's block runs at its next step. -/
def fetch (s : State) : Fetched := fetchIn Config.aldb s

/-- An engine BUSY with nothing from the host pending (DESIGN CHOICE, log entry 8). -/
def placedBusy (s : State) : State := { s with phase := .busy, port := [] }

/-- D_CLASS's three low bytes placed in the latch. -/
def placedClass (s : State) (w : Nat) : State :=
  { s with dl := { s.dl with
      aal := BitVec.ofNat 8 w, trafType := BitVec.ofNat 8 (w / 256), trafSubtype := BitVec.ofNat 8 (w / 65536) } }

/-- An LE Control frame of 108 bytes placed at offset 0: the opcode, every other byte 0 (30 R88, R106). -/
def placedFrame (op : Half) : List Byte :=
  [0, 0, 0, 0, op.extractLsb' 8 8, op.extractLsb' 0 8] ++ List.replicate 102 0

/-- A table word placed where the engine's next step selects its row (DESIGN CHOICE, log entry 8): the class in DL with the slice
[0, 0), or the frame in the buffer with LIM at its end. -/
def placeWord (s : State) (nbits w : Nat) : State :=
  match tableFormat nbits w with
  | .lecOpcode =>
    { placedBusy s with
      unit := .lec 0, lim := 108, buf := Memory.writeAll s.buf 0 (placedFrame (BitVec.ofNat 16 w)) }
  | .laneSubtype => { placedClass (placedBusy s) w with unit := .lane 0 0 }
  | _ => { placedClass (placedBusy s) w with unit := .pdu 0 0 }

end Sys2Proof.Machine
end

