-- ==== Sys2Proof/Machine/HostPort.lean ====
section
/-! DEFINITION. HostPort: the register map (10_state R21 to R46), the host's register and buffer accesses (R49, 20_memory
R60 to R62, 70_reset R284, R285), and the host notation's expansions (30_encoding R108, R109). -/

namespace Sys2Proof.Machine

open Sys2Proof

/-- The named registers (10_state section 2). `ld i k` is word `k` of R_LDi (A, B, C), `tlv k w` word `w` of R_TLV[k]. -/
inductive Reg where
  | ctrl
  | status
  | errOffset
  | config
  | dCapLen
  | dRepLen
  | dClass
  | dFlags
  | dCellCount
  | dMetaA
  | dMetaCrc
  | valid
  | disp
  | dispOff
  | dispLen
  | hdr0
  | hdr1
  | a5Cells
  | a5Trl
  | a5Crc
  | a5PadOff
  | a5PadLen
  | a5Info
  | laneClient
  | lec0
  | lec1
  | lecStatus
  | lecTransId
  | lec2
  | lecFlagbits
  | cj
  | tlvInfo
  | ld (i k : Nat)
  | atm0 (k : Nat)
  | atm1 (k : Nat)
  | name (k : Nat)
  | tlv (k w : Nat)
deriving DecidableEq, Repr

/-- The rows of the register map with one register each (10_state section 2). -/
def regTable : List (Nat × Reg) :=
  [(0x000, .ctrl), (0x004, .status), (0x008, .errOffset), (0x00C, .config), (0x010, .dCapLen), (0x014, .dRepLen),
   (0x018, .dClass), (0x01C, .dFlags), (0x020, .dCellCount), (0x024, .dMetaA), (0x028, .dMetaCrc), (0x040, .valid)] ++
  [(0x048, .disp), (0x04C, .dispOff), (0x050, .dispLen), (0x054, .hdr0), (0x058, .hdr1), (0x05C, .a5Cells),
   (0x060, .a5Trl), (0x064, .a5Crc), (0x068, .a5PadOff), (0x06C, .a5PadLen), (0x070, .a5Info), (0x074, .laneClient)] ++
  [(0x080, .lec0), (0x084, .lec1), (0x088, .lecStatus), (0x08C, .lecTransId), (0x090, .lec2), (0x094, .lecFlagbits),
   (0x098, .cj), (0x09C, .tlvInfo), (0x0A0, .ld 0 0), (0x0A4, .ld 0 1), (0x0A8, .ld 0 2), (0x0AC, .ld 1 0),
   (0x0B0, .ld 1 1), (0x0B4, .ld 1 2)]

/-- The register at an aligned address, if this spec names one (10_state section 2). -/
def regAt (c : Config) (a : Nat) : Option Reg :=
  match regTable.lookup a with
  | some x => some x
  | none =>
    if 0x0C0 ≤ a ∧ a ≤ 0x0D0 then some (.atm0 ((a - 0x0C0) / 4))
    else if 0x0E0 ≤ a ∧ a ≤ 0x0F0 then some (.atm1 ((a - 0x0E0) / 4))
    else if 0x100 ≤ a ∧ a ≤ 0x11C then some (.name ((a - 0x100) / 4))
    else if 0x200 ≤ a ∧ a < 0x200 + 12 * c.tlvSlots then some (.tlv ((a - 0x200) / 12) ((a - 0x200) % 12 / 4))
    else none

/-- STATUS.ERR_CODE (60 R261). -/
def ErrKind.code : ErrKind → BitVec 4
  | .none => 0
  | .truncatedBuffer => 1
  | .malformedLength => 2
  | .badDescriptor => 3

/-- STATUS.ERR_UNIT (60 R262). -/
def ErrUnit.code : ErrUnit → BitVec 4
  | .none => 0
  | .job => 1
  | .cellHeader => 2
  | .aal5 => 3
  | .laneDispatch => 4
  | .leControl => 5
  | .leBody => 6
  | .lanDest => 7
  | .tlv => 8

/-- R_DISP.TARGET (10_state R44). -/
def Target.code : Target → BitVec 4
  | .none => 0
  | .sscop => 1
  | .llc => 2
  | .leControl => 3
  | .ethernet => 4
  | .tokenRing => 5
  | .ilmi => 6
  | .raw => 7
  | .aalCellBody => 8

/-- R_LDi_A.KIND (10_state R39). -/
def LdKind.code : LdKind → BitVec 2
  | .notPresent => 0
  | .macAddress => 1
  | .routeDescriptor => 2

/-- CONFIG (10_state R25): bit 0 CJ_LAYOUT, bit 1 GFC_NIBBLE. -/
def configWord (c : Config) : Word :=
  (0#30) ++ BitVec.ofBool (c.gfcNibble == .high) ++ BitVec.ofBool (c.cjLayout == .standard)

/-- STATUS (10_state R23). -/
def statusWord (s : State) : Word :=
  (0#20) ++ s.errUnit.code ++ s.errCode.code ++ (0#2) ++ BitVec.ofBool s.done ++ BitVec.ofBool (s.phase == .busy)

/-- A word of a LAN destination result: A, B or C (10_state R39). -/
def ldWord (v : LanDest) (k : Nat) : Word :=
  if k = 0 then (0#14) ++ v.kind.code ++ v.tag
  else if k = 1 then v.mac.extractLsb' 16 32
  else v.bridge ++ v.lanId ++ v.mac.extractLsb' 0 16

/-- A word of a TLV slot (10_state R45). -/
def tlvWord (t : TlvRec) (w : Nat) : Word :=
  if w = 0 then t.typ else if w = 1 then t.len.setWidth 32 else t.voff

/-- What a register holds, packed as 10_state R22 to R46 lay it out. -/
def regWord (c : Config) (s : State) : Reg → Word
  | .ctrl => (0#29) ++ BitVec.ofBool s.irqEn ++ (0#2)
  | .status => statusWord s
  | .errOffset => s.errOffset
  | .config => configWord c
  | .dCapLen => s.desc.capLen
  | .dRepLen => s.desc.repLen
  | .dClass => s.desc.cls
  | .dFlags => s.desc.flags
  | .dCellCount => s.desc.cellCount
  | .dMetaA => s.desc.metaA
  | .dMetaCrc => s.desc.metaCrc
  | .valid => s.valid
  | .disp => (0#28) ++ s.r.dispTarget.code
  | .dispOff => s.r.dispOff
  | .dispLen => s.r.dispLen
  | .hdr0 => s.r.vci ++ s.r.gfc ++ s.r.vpi
  | .hdr1 => (0#16) ++ s.r.hec ++ (0#4) ++ s.r.clp ++ s.r.pt
  | .a5Cells => s.r.a5Cells
  | .a5Trl => s.r.len ++ s.r.cpi ++ s.r.uu
  | .a5Crc => s.r.crc
  | .a5PadOff => s.r.padOff
  | .a5PadLen => s.r.padLen
  | .a5Info => (0#30) ++ s.r.cellsSrc ++ s.r.trailerSrc
  | .laneClient => (0#16) ++ s.r.laneClient
  | .lec0 => s.r.version ++ s.r.protocol ++ s.r.marker
  | .lec1 => (0#5) ++ s.r.body.code ++ (0#3) ++ s.r.opclass ++ s.r.opcode
  | .lecStatus => (0#16) ++ s.r.status
  | .lecTransId => s.r.transId
  | .lec2 => s.r.flags ++ s.r.reqLecId
  | .lecFlagbits => (0#30) ++ s.r.v2Capable ++ s.r.remote
  | .cj => (0#2) ++ s.r.nameLen ++ s.r.nameSize ++ s.r.maxFrame ++ s.r.lanType
  | .tlvInfo => (0#7) ++ s.r.tlvsDone ++ (0#8) ++ s.r.numTlvs
  | .ld i k => ldWord (s.r.ld i) k
  | .atm0 k => packedWord s.r.atm0 k
  | .atm1 k => packedWord s.r.atm1 k
  | .name k => packedWord s.r.name k
  | .tlv k w => tlvWord (tlvSlot s.r.tlvs k) w

/-- Whether a read of the register while BUSY gives any value: the result registers, R_VALID among them, and
ERR_OFFSET (70 R285; DESIGN CHOICE, log entry 4). -/
def Reg.openWhileBusy : Reg → Bool
  | .ctrl | .status | .config | .dCapLen | .dRepLen | .dClass | .dFlags | .dCellCount | .dMetaA | .dMetaCrc => false
  | .errOffset | .valid | .disp | .dispOff | .dispLen | .hdr0 | .hdr1 | .a5Cells | .a5Trl | .a5Crc | .a5PadOff
  | .a5PadLen | .a5Info | .laneClient | .lec0 | .lec1 | .lecStatus | .lecTransId | .lec2 | .lecFlagbits | .cj
  | .tlvInfo | .ld _ _ | .atm0 _ | .atm1 _ | .name _ | .tlv _ _ => true

/-- A register read (10_state R21, 70 R285, R286): the value, and the state after it. An unnamed address reads 0. Only a
read that gives a free value moves anything: the model's count of free values, which in every engine counts into the same
values (DESIGN CHOICE, log entry 24). -/
def regRead (c : Config) (s : State) (a : Nat) : Word × State :=
  match regAt c a with
  | none => (0, s)
  | some x =>
    if s.phase = .busy ∧ x.openWhileBusy = true then
      (Config.busyRead s.freeCount, { s with freeCount := s.freeCount + 1 })
    else (regWord c s x, s)

/-- A write to CTRL (10_state R22, 60 R260, 70 R285): SOFT_RESET wins; IRQ_EN takes the written bit in any phase; START
begins a job only while IDLE. -/
def ctrlWrite (v : Word) (s : State) : State :=
  if v.getLsbD 1 then s.softReset
  else if v.getLsbD 0 = true ∧ s.phase = .idle then ({ s with irqEn := v.getLsbD 2 }).start
  else { s with irqEn := v.getLsbD 2 }

/-- A write to a descriptor register (10_state section 4): ignored while BUSY (70 R285). -/
def descWrite (g : Descriptor → Descriptor) (s : State) : State :=
  if s.phase = .busy then s else { s with desc := g s.desc }

/-- A register write, by its access kind (10_state R21 to R30): RO registers ignore it, RSV bits are not kept. -/
def regWrite (x : Reg) (v : Word) (s : State) : State :=
  match x with
  | .ctrl => ctrlWrite v s
  | .status => if v.getLsbD 1 then s.clearDone else s
  | .dCapLen => descWrite (fun d => { d with capLen := v }) s
  | .dRepLen => descWrite (fun d => { d with repLen := v }) s
  | .dClass => descWrite (fun d => { d with cls := v }) s
  | .dFlags => descWrite (fun d => { d with flags := v &&& 1 }) s
  | .dCellCount => descWrite (fun d => { d with cellCount := v }) s
  | .dMetaA => descWrite (fun d => { d with metaA := v }) s
  | .dMetaCrc => descWrite (fun d => { d with metaCrc := v }) s
  | .errOffset | .config | .valid | .disp | .dispOff | .dispLen | .hdr0 | .hdr1 | .a5Cells | .a5Trl | .a5Crc
  | .a5PadOff | .a5PadLen | .a5Info | .laneClient | .lec0 | .lec1 | .lecStatus | .lecTransId | .lec2
  | .lecFlagbits | .cj | .tlvInfo | .ld _ _ | .atm0 _ | .atm1 _ | .name _ | .tlv _ _ => s

/-- A register write at an address: an unnamed one ignores it (10_state R21). -/
def regWriteAt (c : Config) (a : Nat) (v : Word) (s : State) : State :=
  match regAt c a with
  | none => s
  | some x => regWrite x v s

/-- A register access: the stop that its shape or its address gets, before the register is looked at, or what the access
does (20_memory R61, R62). -/
def regAccess (a size : Nat) (served : Host.Outcome State Fault Refusal) : Host.Outcome State Fault Refusal :=
  if size ≠ 4 ∨ a % 4 ≠ 0 then .refused (.registerAccessShape a size)
  else if 0xE00 ≤ a then .fault (.registerAddressOutside a)
  else served

/-- A register read into `rdata`. -/
def hostRd (c : Config) (a : Nat) (s : State) : State :=
  { (regRead c s a).2 with rdata := (regRead c s a).1 }

/-- A byte of the buffer written by the host (20_memory R60): refused while BUSY (70 R284). -/
def hostBufWr (c : Config) (o : Nat) (b : Byte) (s : State) : Host.Outcome State Fault Refusal :=
  if c.bufCap ≤ o then .fault (.bufferOffsetOutside o)
  else if s.phase = .busy then .refused (.bufferWriteWhileBusy o)
  else .next { s with buf := Memory.write s.buf o b }

/-- A byte of the buffer read by the host (10_state R49). -/
def hostBufRd (c : Config) (o : Nat) (s : State) : Host.Outcome State Fault Refusal :=
  if c.bufCap ≤ o then .fault (.bufferOffsetOutside o)
  else .next { s with bdata := Memory.read s.buf o }

/-- What an EXPECT's read decides (30_encoding R108): the register reads the value, or the host's assertion fails. -/
def hostExpect (c : Config) (a : Nat) (v : Word) (s : State) : Host.Outcome State Fault Refusal :=
  if (regRead c s a).1 = v then .next (regRead c s a).2
  else .fault (.expectationFailed a (regRead c s a).1)

/-- One host transaction on the engine (10_state R49). WAIT and a tick access nothing; what they do is the step's. -/
def hostAccess (c : Config) (op : PortOp) (s : State) : Host.Outcome State Fault Refusal :=
  match op with
  | .wr a size v => regAccess a size (.next (regWriteAt c a v s))
  | .rd a size => regAccess a size (.next (hostRd c a s))
  | .bufWr o b => hostBufWr c o b s
  | .bufRd o => hostBufRd c o s
  | .expect a v => regAccess a 4 (hostExpect c a v s)
  | .wait | .tick => .next s

/-! The host notation (30_encoding R108, R109): the transactions a command makes. -/

/-- `WR addr, value`. -/
def cmdWr (a : Nat) (v : Word) : PortOp := .wr a 4 v

/-- `BUF off: bytes`. -/
def cmdBuf (o : Nat) (bs : List Byte) : List PortOp := bs.mapIdx fun k b => .bufWr (o + k) b

/-- The fields of a `DESC` (R109); an omitted field is 0. -/
structure DescArgs where
  l : Word := 0
  rl : Word := 0
  aal : BitVec 8 := 0
  tt : BitVec 8 := 0
  st : BitVec 8 := 0
  ch : BitVec 8 := 0
  trunc : Word := 0
  cells : Word := 0
  uu : BitVec 8 := 0
  cpi : BitVec 8 := 0
  len : BitVec 16 := 0
  crc : Word := 0
deriving DecidableEq, Repr

/-- `DESC ...` (R109). -/
def cmdDesc (d : DescArgs) : List PortOp :=
  [cmdWr 0x010 d.l, cmdWr 0x014 d.rl, cmdWr 0x018 (d.ch ++ d.st ++ d.tt ++ d.aal), cmdWr 0x01C d.trunc,
   cmdWr 0x020 d.cells, cmdWr 0x024 (d.len ++ d.cpi ++ d.uu), cmdWr 0x028 d.crc]

/-- `GO` (R109), with the host's current choice of IRQ_EN. -/
def cmdGo (irqEn : Bool) : List PortOp := [cmdWr 0x000 ((0#29) ++ BitVec.ofBool irqEn ++ (1#2)), .wait]

/-- `CLEAR` (R109): clear DONE. -/
def cmdClear : List PortOp := [cmdWr 0x004 0x2]

end Sys2Proof.Machine
end

