-- ==== Sys2Proof/Machine/Turn.lean ====
section
/-! DEFINITION. Turn: whose turn a step is, the host's or the engine's, and what the engine then runs
(DESIGN CHOICE, log entries 2 and 3). Each definition takes the block's parameters (00_scope R5) and the meaning of its
rows. -/

namespace Sys2Proof.Machine

open Sys2Proof

/-- The engine's step while BUSY: the row its unit selects (40 R120, R125, R130; 43 R170). -/
def engineStep (c : Config) (run : Instr → State → Host.Outcome State Fault Refusal) (s : State) :
    Host.Outcome State Fault Refusal :=
  match fetchIn c s with
  | .row i => run i s
  | .shortFrame f => runRow (leShort c f) s
  | .noBody => runRow finish s
  | .rejected e => .refused (.noRowSelected e)

/-- The engine with no host transaction to take: it runs its job, or waits in IDLE for START (70 R281). -/
def engineTurn (c : Config) (run : Instr → State → Host.Outcome State Fault Refusal) (s : State) :
    Host.Outcome State Fault Refusal :=
  match s.phase with
  | .idle => .next s
  | .busy => engineStep c run s

/-- One step of an engine. A pending host transaction comes first; a tick leaves the step to the engine; WAIT leaves it to
the engine until DONE = 1 (30 R108). -/
def stepOf (c : Config) (run : Instr → State → Host.Outcome State Fault Refusal) (s : State) :
    Host.Outcome State Fault Refusal :=
  match s.port with
  | [] => engineTurn c run s
  | .tick :: rest => engineTurn c run { s with port := rest }
  | .wait :: rest => if s.done then .next { s with port := rest } else engineTurn c run s
  | op :: rest => hostAccess c op { s with port := rest }

end Sys2Proof.Machine
end

