-- ==== Sys2Proof/Machine/Step.lean ====
section
/-! DEFINITION. Step: one step is one host transaction, or one row of the running job (DESIGN CHOICE, log entries 2 and 3). -/

namespace Sys2Proof.Machine

open Sys2Proof

/-- One step of an engine of a block built with the parameters `c` (00_scope R5). -/
def stepIn (c : Config) (s : State) : Host.Outcome State Fault Refusal := stepOf c (execIn c) s

/-- One step of an engine of this spec's block. -/
def step (s : State) : Host.Outcome State Fault Refusal := stepOf Config.aldb exec s

/-- A word of spec/opcode_table.json placed where `step` selects its next row. -/
def State.withFetchWord (s : State) (nbits w : Nat) : State := placeWord s nbits w

end Sys2Proof.Machine
end

