-- ==== Sys2Proof/Machine/Engines.lean ====
section
/-! DEFINITION. Engines: an ALDB of NUM_ENGINES engines (60_exceptions R272): each has a state of its own, and they share
only the read-only configuration. -/

namespace Sys2Proof.Machine

open Sys2Proof

/-- The engines of one block, by their index in the platform's map (60 R272). -/
abbrev Block := List State

/-- The block after power-on: NUM_ENGINES engines (60 R272, 70 R280). Every engine starts at the same state, so unwritten
bytes and BUSY reads agree between engines, which the spec leaves open (DESIGN CHOICE, log entry 24). -/
def Block.reset (c : Config) : Block := List.replicate c.numEngines State.reset

/-- What a step of the block ends in: engine `k` stopped, or the block's next state. -/
inductive BlockOutcome where
  | next (b : Block)
  | fault (k : Nat) (r : Fault)
  | refused (k : Nat) (r : Refusal)
  | noSuchEngine (k : Nat)
deriving DecidableEq, Repr

/-- Engine `k` takes a step; every other engine stays as it is (60 R272). -/
def Block.step (c : Config) (b : Block) (k : Nat) : BlockOutcome :=
  match b[k]? with
  | none => .noSuchEngine k
  | some s =>
    match stepIn c s with
    | .next t => .next (b.set k t)
    | .fault r => .fault k r
    | .refused r => .refused k r

end Sys2Proof.Machine
end

