-- ==== Sys2Proof/Safety.lean ====
section
/-! DEFINITION. Safety: the terms the statements are written in: what a job's end and its errors leave (60 R263), the
bytes a rule names, the invariants every step keeps, and runs of the engine alone. -/

namespace Sys2Proof.Safety

open Sys2Proof Sys2Proof.Machine

/-- The big-endian integer of the `n` buffer bytes at `o` (20_memory R63). -/
def be (s : State) (o n : Nat) : Nat := beNat (Memory.bytes s.buf o n)

/-- The buffer byte `B[o]` (00_scope R6). -/
def byteAt (s : State) (o : Nat) : Byte := Memory.read s.buf o

/-- The state with a job ended and no error recorded by the end (60 R263, `end()`). -/
def ended (s : State) : State := { s with done := true, phase := .idle, unit := .job }

/-- The state with a job ended by `raise E(o)` in a unit (60 R263). -/
def raised (s : State) (k : ErrKind) (u : ErrUnit) (o : Nat) : State :=
  { s with errCode := k, errUnit := u, errOffset := BitVec.ofNat 32 o, done := true, phase := .idle, unit := .job }

/-- A change of the result record, with valid bits set (10_state R32). -/
def wrote (s : State) (bits : BitVec 32) (g : Record → Record) : State :=
  { s with r := g s.r, valid := s.valid ||| bits }

/-- `dispatch(T, off, len)` (00_scope R9). -/
def dispatched (s : State) (t : Target) (off len : Nat) : State :=
  wrote s 0x10 fun r => { r with dispTarget := t, dispOff := BitVec.ofNat 32 off, dispLen := BitVec.ofNat 32 len }

/-- A state inside `job()`, its limit and its cursor set (40 R120). -/
def entered (s : State) : State := { s with lim := s.dl.l.toNat, cur := 0 }

/-- The job rows. -/
def jobRows : List Instr := [.jobCell, .jobPduTrunc, .jobPduTail, .jobPduCut]

/-- What the engine leaves alone whatever row it runs: the buffer, the descriptor and its latch, the interrupt enable,
and the host's port (20_memory R60, R61). -/
structure EngineFrame (s t : State) : Prop where
  buf : t.buf = s.buf
  desc : t.desc = s.desc
  dl : t.dl = s.dl
  irqEn : t.irqEn = s.irqEn
  port : t.port = s.port
  rdata : t.rdata = s.rdata
  bdata : t.bdata = s.bdata
  freeCount : t.freeCount = s.freeCount

/-- Every valid bit that was set stays set. -/
def keepsValid (s t : State) : Prop := s.valid &&& t.valid = s.valid

/-! Field values a rule names. -/

/-- The six fields of header bytes `b0` to `b4`, by the formulas of 41 R140 on natural numbers; GFC is b0[3:0] for
GFC_NIBBLE = LOW and b0[7:4] for HIGH (30 R85, R86). -/
def headerOf (c : Config) (b0 b1 b2 b3 b4 : Nat) (r : Record) : Record :=
  { r with
    vpi := BitVec.ofNat 12 (((b0 &&& 0xF0) <<< 4) ||| (b1 >>> 4))
    vci := BitVec.ofNat 16 (((b1 &&& 0x0F) <<< 12) ||| (b2 <<< 4) ||| (b3 >>> 4))
    gfc := if c.gfcNibble = .low then BitVec.ofNat 4 (b0 &&& 0x0F) else BitVec.ofNat 4 (b0 >>> 4)
    pt := BitVec.ofNat 3 ((b3 >>> 1) &&& 7)
    clp := BitVec.ofNat 1 (b3 &&& 1)
    hec := BitVec.ofNat 8 b4 }

/-- The header at buffer offset 0 unpacked (41 R140). -/
def headerAt (c : Config) (s : State) (r : Record) : Record :=
  headerOf c (byteAt s 0).toNat (byteAt s 1).toNat (byteAt s 2).toNat (byteAt s 3).toNat (byteAt s 4).toNat r

/-- The state with the trailer of the last 8 captured bytes reported, and the inferred cell count (42 R152, R153,
R159). -/
def trailerRead (s : State) : State :=
  let l := s.dl.l.toNat
  let t := wrote (entered s) 0x2 fun r => { r with
    uu := byteAt s (l - 8), cpi := byteAt s (l - 7), len := BitVec.ofNat 16 (be s (l - 6) 2)
    crc := BitVec.ofNat 32 (be s (l - 4) 4), trailerSrc := 0 }
  if s.dl.rl.toNat % 48 = 0 then
    wrote t 0x4 fun r => { r with a5Cells := BitVec.ofNat 32 (s.dl.rl.toNat / 48), cellsSrc := 1 }
  else t

/-- What HDR_UNPACK leaves: the header's fields and V.HDR, or the error that writes no field (41 R140, R145). -/
def headerUnpacked (c : Config) (s : State) : State :=
  if 5 ≤ s.lim then { wrote s 0x1 (headerAt c s) with cur := 5 } else raised s .truncatedBuffer .cellHeader 0

/-- A LAN destination slot after a decode of tag `tag`, with the MAC or route word read (45 R240 to R243). -/
def ldDecoded (c : Config) (old : LanDest) (tag mac w : Nat) : LanDest :=
  if tag = c.ldTagMac.toNat then
    { old with tag := BitVec.ofNat 16 tag, kind := .macAddress, mac := BitVec.ofNat 48 mac }
  else if tag = c.ldTagRoute.toNat then
    { old with
      tag := BitVec.ofNat 16 tag, kind := .routeDescriptor, lanId := BitVec.ofNat 12 (w / 16), bridge := BitVec.ofNat 4 (w % 16) }
  else { old with tag := BitVec.ofNat 16 tag, kind := .notPresent }

/-- The LAN destination decoded at `d` (45 R240). -/
def ldAt (c : Config) (s : State) (d : Nat) (old : LanDest) : LanDest :=
  ldDecoded c old (be s d 2) (be s (d + 2) 6) (be s (d + 6) 2)

/-- The offset at which a decode at `d` runs past the read limit, if it does: the tag, the MAC of a MAC tag, or the word of
a route tag (45 R240, Exceptions). -/
def ldCut (c : Config) (s : State) (d : Nat) : Option Nat :=
  if s.lim < d + 2 then some d
  else if be s d 2 = c.ldTagMac.toNat then if s.lim < d + 8 then some (d + 2) else none
  else if be s d 2 = c.ldTagRoute.toNat then if s.lim < d + 8 then some (d + 6) else none
  else none

/-- The name slot's 32 bytes after a name of `k` bytes at `o` (44 R212, 10_state R43). -/
def nameAt (s : State) (o k : Nat) : BitVec 256 := BitVec.ofNat 256 (be s o k * 256 ^ (32 - k))

/-- The 18 opcodes of 30_encoding R97: the row, its value, its OPCLASS, its body kind. -/
def opcodeRows : List ((Word → Instr) × Half × Nat × BodyKind) :=
  [(.configureRequest, 0x0001, 0, .configureJoin), (.configureResponse, 0x0101, 1, .configureJoin),
   (.joinRequest, 0x0002, 2, .configureJoin), (.joinResponse, 0x0102, 3, .configureJoin),
   (.readyQuery, 0x0003, 4, .none), (.readyInd, 0x0103, 5, .none)] ++
  [(.registerRequest, 0x0004, 6, .registration), (.registerResponse, 0x0104, 7, .registration),
   (.unregisterRequest, 0x0005, 8, .registration), (.unregisterResponse, 0x0105, 9, .registration),
   (.arpRequest, 0x0006, 10, .arp), (.arpResponse, 0x0106, 11, .arp)] ++
  [(.flushRequest, 0x0007, 12, .flush), (.flushResponse, 0x0107, 13, .flush), (.narpRequest, 0x0008, 14, .arp),
   (.topologyRequest, 0x0009, 15, .topology), (.verifyRequest, 0x000A, 16, .verify),
   (.verifyResponse, 0x010A, 17, .verify)]

/-- Fields of a frame in their order: offset from its start, width, valid bits, and the write. -/
abbrev Fields := List (Nat × Nat × BitVec 32 × (Record → Record))

/-- The fields of an LE Control header, in its order (30 R88, 43 R170): offset, width, valid bits, and the write. The
status slot is consumed for every opcode and reported only for a response (43 R172). -/
def headerFields (s : State) (f : Nat) (op : Half) (cls : Nat) : Fields :=
  [(0, 2, 0x40, fun r => { r with marker := BitVec.ofNat 16 (be s f 2) }),
   (2, 1, 0x80, fun r => { r with protocol := BitVec.ofNat 8 (be s (f + 2) 1) }),
   (3, 1, 0x100, fun r => { r with version := BitVec.ofNat 8 (be s (f + 3) 1) }),
   (4, 2, 0x200, fun r => { r with opcode := op, opclass := BitVec.ofNat 5 cls }),
   (6, 2, if op.getLsbD 8 then 0x400 else 0,
    fun r => if op.getLsbD 8 then { r with status := BitVec.ofNat 16 (be s (f + 6) 2) } else r),
   (8, 4, 0x800, fun r => { r with transId := BitVec.ofNat 32 (be s (f + 8) 4) }),
   (12, 2, 0x1000, fun r => { r with reqLecId := BitVec.ofNat 16 (be s (f + 12) 2) }),
   (14, 2, 0x2000, fun r => { r with flags := BitVec.ofNat 16 (be s (f + 14) 2) })]

/-- Fields of a frame at `f` consumed one after another: each written with its valid bits, the cursor at its end
(43 R170, 10_state R41). -/
def consume (s : State) (f : Nat) (fields : Fields) : State :=
  fields.foldl (fun t x => { wrote t x.2.2.1 x.2.2.2 with cur := f + x.1 + x.2.1 }) s

/-- The body kind reported, the header's last state (43 R170, S_BODY). -/
def bodyChosen (s : State) (k : BodyKind) : State := wrote s 0x10000 fun r => { r with body := k }

/-- What the fields every body but Verify's begins with leave: two LAN destinations and ATM0 (30 R90 to R95). -/
def headAt (c : Config) (s : State) (f : Nat) : State :=
  { wrote s 0xE0000 fun r => { r with
      ld0 := ldAt c s (f + 16) r.ld0, ld1 := ldAt c s (f + 24) r.ld1, atm0 := BitVec.ofNat 160 (be s (f + 32) 20) }
    with cur := f + 52 }

/-- Where LAN type, max frame, TLV count and name size begin in a ConfigureJoin body, by CJ_LAYOUT (30 R90, R91). -/
def cjScalarsAt (c : Config) : Nat := if c.cjLayout = .doc then 72 else 52

/-- The four one-byte fields of a ConfigureJoin body (30 R90, R91, R105). -/
def cjScalarFields (c : Config) (s : State) (f : Nat) : Fields :=
  let o := cjScalarsAt c
  [(o, 1, 0x200000, fun r => { r with lanType := byteAt s (f + o) }),
   (o + 1, 1, 0x400000, fun r => { r with maxFrame := byteAt s (f + o + 1) }),
   (o + 2, 1, 0x800000, fun r => { r with numTlvs := byteAt s (f + o + 2) }),
   (o + 3, 1, 0x1000000, fun r => { r with
      nameSize := byteAt s (f + o + 3)
      nameLen := BitVec.ofNat 6 (min (byteAt s (f + o + 3)).toNat c.elanNameMax) })]

/-- The fields of a ConfigureJoin body between ATM0 and the name, in the order CJ_LAYOUT gives them: ATM1 first (DOC, 30
R90) or last (STANDARD, 30 R91). -/
def cjFields (c : Config) (s : State) (f : Nat) : Fields :=
  if c.cjLayout = .doc then
    (52, 20, 0x100000, fun r => { r with atm1 := BitVec.ofNat 160 (be s (f + 52) 20) }) :: cjScalarFields c s f
  else
    cjScalarFields c s f ++ [(56, 20, 0x100000, fun r => { r with atm1 := BitVec.ofNat 160 (be s (f + 56) 20) })]

/-- The length of the name a ConfigureJoin body gives: the declared size, clamped (30 R105, 44 R211). -/
def cjNameLen (c : Config) (s : State) (f : Nat) : Nat := min (byteAt s (f + cjScalarsAt c + 3)).toNat c.elanNameMax

/-! TLV runs. -/

/-- The start of entry `k` of a TLV run at `o` (30 R102): each entry is 5 bytes and its length. -/
def tlvStart (m : Memory) (o : Nat) : Nat → Nat
  | 0 => o
  | k + 1 => tlvStart m o k + 5 + (Memory.read m (tlvStart m o k + 4)).toNat

/-- Entry `k` of a TLV run at `o` (45 R245). -/
def tlvEntry (m : Memory) (o k : Nat) : TlvRec :=
  ⟨BitVec.ofNat 32 (beNat (Memory.bytes m (tlvStart m o k) 4)), Memory.read m (tlvStart m o k + 4),
   BitVec.ofNat 32 (tlvStart m o k + 5)⟩

/-! The invariants. -/

/-- DL selects a PDU job (30 R84). -/
def pduClass (dl : Latch) : Prop := dl.aal = 4 ∨ dl.aal = 6

/-- What holds of the unit a running engine is about to enter: its operands lie inside the read limit, and what selects
its row is in place (40 R125, R130, R134; 43 R170; 44 R210, R214). -/
def unitOk (s : State) : Prop :=
  match s.unit with
  | .job => True
  | .pdu po pl => pduClass s.dl ∧ po = 0 ∧ pl.toNat ≤ s.lim
  | .lane po pl => s.dl.aal = 4 ∧ s.dl.trafType = 3 ∧ po = 0 ∧ s.lim = pl.toNat
  | .lec f => f = 0
  | .body f =>
    f = 0 ∧ 16 ≤ s.lim ∧ s.cur = 16 ∧ s.r.body ≠ .none ∧ s.r.body ≠ .topology
  | .tlv o _ => o = 108 ∧ 55 ≤ s.lim

/-- A result field whose valid bit is 0 reads 0 (10_state R32), for the bits 0 to 13. -/
structure ZeroUnlessValidA (s : State) : Prop where
  hdr : s.isValid .hdr = false → s.r.vpi = 0 ∧ s.r.gfc = 0 ∧ s.r.vci = 0 ∧ s.r.pt = 0 ∧ s.r.clp = 0 ∧ s.r.hec = 0
  a5Trailer : s.isValid .a5Trailer = false →
    s.r.uu = 0 ∧ s.r.cpi = 0 ∧ s.r.len = 0 ∧ s.r.crc = 0 ∧ s.r.trailerSrc = 0
  a5Cells : s.isValid .a5Cells = false → s.r.a5Cells = 0 ∧ s.r.cellsSrc = 0
  a5Pad : s.isValid .a5Pad = false → s.r.padOff = 0 ∧ s.r.padLen = 0
  disp : s.isValid .disp = false → s.r.dispTarget = .none ∧ s.r.dispOff = 0 ∧ s.r.dispLen = 0
  laneClient : s.isValid .laneClient = false → s.r.laneClient = 0
  lecMarker : s.isValid .lecMarker = false → s.r.marker = 0
  lecProtocol : s.isValid .lecProtocol = false → s.r.protocol = 0
  lecVersion : s.isValid .lecVersion = false → s.r.version = 0
  lecOpcode : s.isValid .lecOpcode = false → s.r.opcode = 0 ∧ s.r.opclass = 0
  lecStatus : s.isValid .lecStatus = false → s.r.status = 0
  lecTransId : s.isValid .lecTransId = false → s.r.transId = 0
  lecReqLecId : s.isValid .lecReqLecId = false → s.r.reqLecId = 0
  lecFlags : s.isValid .lecFlags = false → s.r.flags = 0

/-- A result field whose valid bit is 0 reads 0 (10_state R32), for the bits 14 to 26. -/
structure ZeroUnlessValidB (s : State) : Prop where
  lecFlagRemote : s.isValid .lecFlagRemote = false → s.r.remote = 0
  lecFlagV2 : s.isValid .lecFlagV2 = false → s.r.v2Capable = 0
  lecBody : s.isValid .lecBody = false → s.r.body = .none
  ld0 : s.isValid .ld0 = false → s.r.ld0 = LanDest.zero
  ld1 : s.isValid .ld1 = false → s.r.ld1 = LanDest.zero
  atm0 : s.isValid .atm0 = false → s.r.atm0 = 0
  atm1 : s.isValid .atm1 = false → s.r.atm1 = 0
  cjLanType : s.isValid .cjLanType = false → s.r.lanType = 0
  cjMaxFrame : s.isValid .cjMaxFrame = false → s.r.maxFrame = 0
  numTlvs : s.isValid .numTlvs = false → s.r.numTlvs = 0
  cjNameSize : s.isValid .cjNameSize = false → s.r.nameSize = 0 ∧ s.r.nameLen = 0
  cjName : s.isValid .cjName = false → s.r.name = 0
  tlvs : s.isValid .tlvs = false → s.r.tlvsDone = 0 ∧ s.r.tlvs = []

/-- A field whose valid bit is 0 reads 0, and bits 31:27 of R_VALID are 0 (10_state R32). -/
structure ZeroUnlessValid (s : State) : Prop where
  low : ZeroUnlessValidA s
  high : ZeroUnlessValidB s
  reserved : s.valid.extractLsb' 27 5 = 0

/-- The invariant of the machine: what every step keeps (10_state R22 to R28, R33, R38, R40, R41, R46; 60 R261, R262,
R264; 70 R285). -/
structure Inv (s : State) : Prop where
  /-- The buffer has its canonical form (20_memory R60). -/
  buf : s.buf.wf = true
  /-- While BUSY, DONE is 0 and no error is recorded (10_state R31, 70 R285). -/
  busyClean : s.phase = .busy → s.done = false ∧ s.errCode = .none
  /-- An error code and an error unit stand or fall together, and ERR_OFFSET is 0 without them (10_state R23, R24). -/
  errPair : s.errCode = .none ↔ s.errUnit = .none
  errOffset : s.errCode = .none → s.errOffset = 0
  /-- LIM lies in the buffer (10_state R40, 60 R264). -/
  lim : s.lim ≤ 65568
  /-- Inside a job past its start, LIM <= DL.L (10_state R40). -/
  limLatch : s.phase = .busy → s.unit ≠ .job → s.lim ≤ s.dl.l.toNat
  /-- The cursor passes LIM by at most 53 (10_state R41). -/
  cur : s.cur ≤ s.lim + 53
  /-- D_FLAGS bits 31:1 are RSV (10_state R28). -/
  flags : s.desc.flags &&& 0xFFFFFFFE#32 = 0
  /-- VPI bits 7:4 are always 0 (10_state R33). -/
  vpi : s.r.vpi.extractLsb' 4 4 = 0
  /-- OPCLASS 18 to 30 are never written (30 R97). -/
  opclass : s.r.opclass.toNat ≤ 17 ∨ s.r.opclass.toNat = 31
  nameLen : s.r.nameLen.toNat ≤ 32
  tlvsDone : s.r.tlvsDone.toNat ≤ 255
  tlvSlots : s.r.tlvs.length ≤ 255
  /-- An IDLE engine's next job enters at `job()` (60 R260). -/
  idle : s.phase = .idle → s.unit = .job
  unit : s.phase = .busy → unitOk s

/-! Reset. -/

/-- A host read of the register at `a` gives 0 and changes nothing else. -/
def readsZero (s : State) (a : Nat) : Prop :=
  step { s with port := [.rd a 4] } = .next { s with port := [], rdata := 0 }

/-- The reset values as 10_state R47 writes them: every control, status, descriptor and valid bit 0, IDLE, DL all zeros, the
cursor and LIM 0, and every address of the register space reads 0 (95 H1). -/
structure ResetValues (t : State) : Prop where
  irqEn : t.irqEn = false
  phase : t.phase = .idle
  done : t.done = false
  errCode : t.errCode = .none
  errUnit : t.errUnit = .none
  errOffset : t.errOffset = 0
  desc : t.desc = { capLen := 0, repLen := 0, cls := 0, flags := 0, cellCount := 0, metaA := 0, metaCrc := 0 }
  dl : t.dl = {
    l := 0, rl := 0, aal := 0, trafType := 0, trafSubtype := 0, channel := 0, truncated := false, cellCount := 0
    metaUu := 0, metaCpi := 0, metaLen := 0, metaCrc := 0 }
  valid : t.valid = 0
  cur : t.cur = 0
  lim : t.lim = 0
  reads : ∀ a, a % 4 = 0 → a < 0xE00 → readsZero t a

/-! Runs of the engine alone. -/

/-- `k` steps of the machine, if none of them stops. -/
def runFor : Nat → State → Option State
  | 0, s => some s
  | k + 1, s =>
    match step s with
    | .next t => runFor k t
    | _ => none

/-- The read limit a row works under: DL.L for a job row, which sets LIM to it, else LIM (10_state R40). -/
def limitOf (i : Instr) (s : State) : Nat := if i.format = .job then s.dl.l.toNat else s.lim

/-- An outcome whose next state is changed. -/
def mapNext (g : State → State) (o : Host.Outcome State Fault Refusal) : Host.Outcome State Fault Refusal :=
  match o with
  | .next t => .next (g t)
  | .fault r => .fault r
  | .refused r => .refused r

/-- A register address that 10_state section 2 names. -/
def namedAddress (a : Nat) : Prop :=
  a ≤ 0x028 ∨ a = 0x040 ∨ 0x048 ≤ a ∧ a ≤ 0x074 ∨ 0x080 ≤ a ∧ a ≤ 0x0B4 ∨ 0x0C0 ≤ a ∧ a ≤ 0x0D0 ∨
    0x0E0 ≤ a ∧ a ≤ 0x0F0 ∨ 0x100 ≤ a ∧ a ≤ 0x11C ∨ 0x200 ≤ a ∧ a < 0xDF4

/-- What of a state a job's host can read when it ends: status, offset, record and valid bits. -/
def report (s : State) : Phase × Bool × ErrKind × ErrUnit × Word × Record × BitVec 32 :=
  (s.phase, s.done, s.errCode, s.errUnit, s.errOffset, s.r, s.valid)

end Sys2Proof.Safety
end

