-- ==== Sys2Proof/Certificates/Slice0/Obligations.lean ====
section
/-! DEFINITION. Obligations: what is stated of the model, from the spec's numbered rules. A next state is written out
whole, so each result statement is its own frame: a field it does not name keeps its value, the packet buffer too. -/

section Statements

open Sys2Proof Sys2Proof.Machine Sys2Proof.Safety

/-! Selection and encoding (30_encoding). -/

/-- Decode and encode agree on every well-formed instruction, with every operand at every value it admits. The operand
words are the model's choice (log entry 7). -/
def Obligations.DecodeEncodeRoundTrip : Prop := ∀ i : Instr, i.wf = true → decode i.format (encode i) = .ok i

/-- What the decoder answers is well formed and a row of the format it was asked for. The forms' byte layout is the
model's choice (log entry 7). -/
def Obligations.DecodedIsWellFormed : Prop :=
  ∀ (fmt : Format) (bs : List Byte) (i : Instr), decode fmt bs = .ok i → i.wf = true ∧ i.format = fmt

/-- 30 R84, 40 R121, 42 R150: the job kind the latch selects. -/
def Obligations.JobKindSelection : Prop :=
  ∀ s : State, s.unit = .job →
    fetch s = .row (
      if s.dl.aal = 4 ∨ s.dl.aal = 6 then
        if s.dl.truncated = true then .jobPduTrunc
        else if s.dl.rl.toNat ≤ s.dl.l.toNat then .jobPduTail
        else .jobPduCut
      else .jobCell)

/-- 43 R193: the opcode's class and body kind, an exact match against the 18 distinct entries of 30 R97. -/
def Obligations.OpcodeClassification : Prop :=
  (∀ e ∈ opcodeRows, opclass Config.aldb e.2.1 = e.2.2.1 ∧ bodyKind Config.aldb e.2.1 = e.2.2.2) ∧
  (∀ op : Half, (∀ e ∈ opcodeRows, op ≠ e.2.1) →
    opclass Config.aldb op = 31 ∧ bodyKind Config.aldb op = .none) ∧
  (opcodeRows.map fun e => e.2.1).Nodup

/-- 43 R170, 30 R97: an LE Control frame that holds its opcode selects that opcode's row. -/
def Obligations.OpcodeSelection : Prop :=
  ∀ (s : State) (f : Word), s.unit = .lec f → f.toNat + 6 ≤ s.lim → f.toNat ≤ 65568 →
    (∀ e ∈ opcodeRows, be s (f.toNat + 4) 2 = e.2.1.toNat → fetch s = .row (e.1 f)) ∧
    ((∀ e ∈ opcodeRows, be s (f.toNat + 4) 2 ≠ e.2.1.toNat) →
      fetch s = .row (.lecUnknown (BitVec.ofNat 16 (be s (f.toNat + 4) 2)) f))

/-- 43 R170 (S_BODY), 30 R98, 44 R210, R221: the row of a body, and of the TLV run after it. -/
def Obligations.BodyAndTlvSelection : Prop :=
  (∀ (s : State) (f : Word), s.unit = .body f → f.toNat ≤ 65568 →
    fetch s =
      match s.r.body with
      | .configureJoin => .row (.cjBody f)
      | .registration => .row (.regBody f)
      | .arp => .row (.arpBody f)
      | .verify => .row (.verifyBody f)
      | .flush => .row (.flushBody f)
      | .none => .noBody
      | .topology => .noBody) ∧
  (∀ (s : State) (o : Word) (n : BitVec 8), s.unit = .tlv o n → o.toNat ≤ 65568 + 53 →
    fetch s = .row (.tlvWalk o n))

/-- The table's words, as spec/opcode_table.json numbers them, decode to their rows (the word 0x0104 is read as
REGISTER_RESPONSE: log entry 8). -/
def Obligations.TableWordsDecode : Prop :=
  decodeTableWord 16 0x0104 = some (.registerResponse 0) ∧ decodeTableWord 16 0x0003 = some (.readyQuery 0) ∧
  decodeTableWord 16 0x010A = some (.verifyResponse 0) ∧ decodeTableWord 8 0x06 = some (.pduSscop 0 0) ∧
  decodeTableWord 16 0x0304 = some (.pduLane 0 0) ∧ decodeTableWord 24 0x040304 = some (.lane8023Mc 0 0)

/-! Jobs (40_job_dispatch, 41_cell_header, 42_aal5_trailer). -/

/-- 60 R264: BadDescriptor, for every job row and nothing else. -/
def Obligations.OverlongJobRefused : Prop :=
  (∀ (i : Instr) (s : State), i ∈ jobRows → 65568 < s.dl.l.toNat →
    exec i s = .next (raised s .badDescriptor .job 0)) ∧
  (∀ (i : Instr) (s : State), i ∈ jobRows → s.dl.l.toNat ≤ 65568 → s.errCode = .none →
    ∃ t, exec i s = .next t ∧ t.errCode ≠ .badDescriptor)

/-- 40 R122, R123: JOB_CELL, selected for every AAL but AAL5 and SIGNALLING. -/
def Obligations.JobCellResult : Prop :=
  (∀ s : State, s.unit = .job → s.dl.aal ≠ 4 → s.dl.aal ≠ 6 → fetch s = .row .jobCell) ∧
  (∀ s : State, s.dl.l.toNat ≤ 65568 → 5 ≤ s.dl.l.toNat →
    exec .jobCell s = .next (ended (dispatched
      { wrote (entered s) 0x1 (headerAt Config.aldb s) with cur := 5 }
      (if s.dl.aal = 1 ∨ s.dl.aal = 3 ∨ s.dl.aal = 7 then .aalCellBody else .raw) 5 (s.dl.l.toNat - 5)))) ∧
  (∀ s : State, s.dl.l.toNat < 5 →
    exec .jobCell s = .next (raised (entered s) .truncatedBuffer .cellHeader 0))

/-- 41 R140, R143, 30 R85, R86: HDR_UNPACK, all or nothing, as the sub-operation it is: in this spec's block, and with
either GFC_NIBBLE in a block of any parameters. -/
def Obligations.HdrUnpackResult : Prop :=
  (∀ s : State, exec .hdrUnpack s = .next (headerUnpacked Config.aldb s)) ∧
  (∀ (c : Config) (s : State), execIn c .hdrUnpack s = .next (headerUnpacked c s))

/-- 41 R141, R142: where VPI's and VCI's bits come from, and that VPI bits 7:4 are 0. -/
def Obligations.VpiVciPlacement : Prop :=
  ∀ s : State, 5 ≤ s.lim → ∃ t, exec .hdrUnpack s = .next t ∧
    t.r.vpi = BitVec.ofNat 12
      ((((byteAt s 0).toNat &&& 0xF0) <<< 4) ||| ((byteAt s 1).toNat >>> 4)) ∧
    t.r.vpi.toNat = (byteAt s 0).toNat / 16 * 256 + (byteAt s 1).toNat / 16 ∧
    t.r.vci = BitVec.ofNat 16
      ((((byteAt s 1).toNat &&& 0x0F) <<< 12) ||| ((byteAt s 2).toNat <<< 4) ||| ((byteAt s 3).toNat >>> 4)) ∧
    t.r.vci.toNat = (byteAt s 1).toNat % 16 * 4096 + (byteAt s 2).toNat * 16 + (byteAt s 3).toNat / 16

/-- 42 R151, R156: JOB_PDU_TRUNC takes the trailer from the metadata, JOB_PDU_CUT reports none; both hand the whole
captured buffer on and read no byte. With what selects each. -/
def Obligations.JobPduTruncAndCutResult : Prop :=
  (∀ s : State, s.unit = .job → s.dl.aal = 4 ∨ s.dl.aal = 6 →
    (s.dl.truncated = true → fetch s = .row .jobPduTrunc) ∧
    (s.dl.truncated = false → s.dl.l.toNat < s.dl.rl.toNat → fetch s = .row .jobPduCut)) ∧
  (∀ s : State, s.dl.l.toNat ≤ 65568 →
    exec .jobPduCut s = .next { entered s with unit := .pdu 0 s.dl.l } ∧
    exec .jobPduTrunc s = .next { (
      if s.dl.cellCount = 0 then entered s
      else wrote (entered s) 0x6 fun r => { r with
        a5Cells := s.dl.cellCount, cellsSrc := 0, uu := s.dl.metaUu, cpi := s.dl.metaCpi, len := s.dl.metaLen
        crc := s.dl.metaCrc, trailerSrc := 1 }) with unit := .pdu 0 s.dl.l })

/-- 42 R152 to R155, R157, R159: JOB_PDU_TAIL, what selects it, its two errors with what each leaves reported, and its
padding report. -/
def Obligations.JobPduTailResult : Prop :=
  (∀ s : State, s.unit = .job → s.dl.aal = 4 ∨ s.dl.aal = 6 → s.dl.truncated = false →
    s.dl.rl.toNat ≤ s.dl.l.toNat → fetch s = .row .jobPduTail) ∧
  (∀ s : State, s.dl.l.toNat ≤ 65568 →
    exec .jobPduTail s = .next (
      if s.dl.l.toNat < 8 then raised (entered s) .truncatedBuffer .aal5 0
      else if s.dl.l.toNat - 8 < be s (s.dl.l.toNat - 6) 2 then
        raised (trailerRead s) .malformedLength .aal5 (s.dl.l.toNat - 6)
      else if be s (s.dl.l.toNat - 6) 2 = s.dl.l.toNat - 8 then
        { trailerRead s with unit := .pdu 0 (BitVec.ofNat 32 (be s (s.dl.l.toNat - 6) 2)) }
      else
        { wrote (trailerRead s) 0x8 (fun r => { r with
            padOff := BitVec.ofNat 32 (be s (s.dl.l.toNat - 6) 2)
            padLen := BitVec.ofNat 32 (s.dl.l.toNat - 8 - be s (s.dl.l.toNat - 6) 2) })
          with unit := .pdu 0 (BitVec.ofNat 32 (be s (s.dl.l.toNat - 6) 2)) }))

/-- 42 R161: what a JOB_PDU_TAIL with no error leaves, from a fresh record. -/
def Obligations.TailLengthBound : Prop :=
  ∀ s t : State, s.errCode = .none → s.isValid .a5Pad = false → exec .jobPduTail s = .next t → t.errCode = .none →
    8 ≤ s.dl.l.toNat ∧ t.r.len.toNat ≤ s.dl.l.toNat - 8 ∧
    (t.isValid .a5Pad = true → t.r.padLen.toNat = s.dl.l.toNat - 8 - t.r.len.toNat) ∧
    t.unit = .pdu 0 (t.r.len.setWidth 32)

/-! PDU dispatch and LANE (40_job_dispatch). -/

/-- 40 R126 to R129: the PDU rows that end the job with a dispatch, and what selects each. -/
def Obligations.PduDispatchResult : Prop :=
  (∀ (s : State) (po pl : Word), s.unit = .pdu po pl → po.toNat + pl.toNat ≤ 65568 →
    (s.dl.aal = 6 → fetch s = .row (.pduSscop po pl)) ∧
    (s.dl.aal = 4 →
      fetch s = .row (
        if s.dl.trafType = 1 then .pduLlc po pl
        else if s.dl.trafType = 3 then .pduLane po pl
        else if s.dl.trafType = 4 then .pduIlmi po pl
        else .pduRaw s.dl.trafType po pl))) ∧
  (∀ (s : State) (tt : BitVec 8) (po pl : Word),
    exec (.pduSscop po pl) s = .next (ended (dispatched s .sscop po.toNat pl.toNat)) ∧
    exec (.pduLlc po pl) s = .next (ended (dispatched s .llc po.toNat pl.toNat)) ∧
    exec (.pduIlmi po pl) s = .next (ended (dispatched s .ilmi po.toNat pl.toNat)) ∧
    exec (.pduRaw tt po pl) s = .next (ended (dispatched s .raw po.toNat pl.toNat)))

/-- 40 R130: PDU_LANE sets the read limit to the slice's end before any LANE read, and the subtype splits the slice. -/
def Obligations.LaneSplitResult : Prop :=
  (∀ (s : State) (po pl : Word),
    exec (.pduLane po pl) s =
      .next { s with lim := po.toNat + pl.toNat, cur := po.toNat, unit := .lane po pl }) ∧
  (∀ (s : State) (po pl : Word), s.unit = .lane po pl → po.toNat + pl.toNat ≤ 65568 → s.dl.aal = 4 →
    s.dl.trafType = 3 →
    fetch s = .row (
      if s.dl.trafSubtype = 1 then .laneLeControl po pl
      else if s.dl.trafSubtype = 2 then .lane8023 po pl
      else if s.dl.trafSubtype = 3 then .lane8025 po pl
      else if s.dl.trafSubtype = 4 then .lane8023Mc po pl
      else if s.dl.trafSubtype = 5 then .lane8025Mc po pl
      else .laneRaw s.dl.trafSubtype po pl))

/-- 40 R131, R132: an 802.3 or 802.5 frame, plain or multicast, under the slice's limit. That the cursor ends at PO+2 is
deduced from 10_state R41 (log entry 5). -/
def Obligations.LaneDataResult : Prop :=
  ∀ (s : State) (po pl : Word), s.lim = po.toNat + pl.toNat →
    ∀ e ∈ [(Instr.lane8023 po pl, Target.ethernet), (.lane8025 po pl, .tokenRing), (.lane8023Mc po pl, .ethernet),
           (.lane8025Mc po pl, .tokenRing)],
      exec e.1 s = .next (
        if 2 ≤ pl.toNat then
          ended (dispatched
            { wrote s 0x20 (fun r => { r with laneClient := BitVec.ofNat 16 (be s po.toNat 2) })
              with cur := po.toNat + 2 }
            e.2 (po.toNat + 2) (pl.toNat - 2))
        else raised s .truncatedBuffer .laneDispatch po.toNat)

/-- 40 R133, R134: LANE_RAW hands the slice on whole, and LANE_LE_CONTROL reports it and goes on to the frame. -/
def Obligations.LaneLeControlAndRawResult : Prop :=
  ∀ (s : State) (st : BitVec 8) (po pl : Word),
    exec (.laneRaw st po pl) s = .next (ended (dispatched s .raw po.toNat pl.toNat)) ∧
    exec (.laneLeControl po pl) s =
      .next { dispatched s .leControl po.toNat pl.toNat with unit := .lec po }

/-! The LE Control header (43_le_control). -/

/-- 43 R174, R175: READY_QUERY and READY_IND end the decode after the opcode. -/
def Obligations.ReadyRowsResult : Prop :=
  ∀ (s : State) (f : Word), f.toNat + 6 ≤ s.lim →
    exec (.readyQuery f) s =
      .next (ended (consume s f.toNat ((headerFields s f.toNat 0x0003 4).take 4))) ∧
    exec (.readyInd f) s =
      .next (ended (consume s f.toNat ((headerFields s f.toNat 0x0103 5).take 4)))

/-- 43 R170, R172, R173, R176 to R179: the header of the configure and join rows, V2_CAPABLE, and the body's call. -/
def Obligations.ConfigureJoinHeaderResult : Prop :=
  ∀ (s : State) (f : Word), f.toNat + 16 ≤ s.lim →
    ∀ e ∈ [(Instr.configureRequest f, (0x0001 : Half), 0), (.configureResponse f, 0x0101, 1),
           (.joinRequest f, 0x0002, 2), (.joinResponse f, 0x0102, 3)],
      exec e.1 s = .next
        { bodyChosen
            (wrote (consume s f.toNat (headerFields s f.toNat e.2.1 e.2.2)) 0x8000
              fun r => { r with v2Capable := BitVec.ofNat 1 (be s (f.toNat + 14) 2 / 2) })
            .configureJoin with unit := .body f }

/-- 43 R170, R172, R173, R184, R185, R188: the header of the ARP rows. REMOTE is reported for ARP and not for NARP. -/
def Obligations.ArpHeaderResult : Prop :=
  ∀ (s : State) (f : Word), f.toNat + 16 ≤ s.lim →
    (∀ e ∈ [(Instr.arpRequest f, (0x0006 : Half), 10), (.arpResponse f, 0x0106, 11)],
      exec e.1 s = .next
        { bodyChosen
            (wrote (consume s f.toNat (headerFields s f.toNat e.2.1 e.2.2)) 0x4000
              fun r => { r with remote := BitVec.ofNat 1 (be s (f.toNat + 14) 2) })
            .arp with unit := .body f }) ∧
    exec (.narpRequest f) s = .next
      { bodyChosen (consume s f.toNat (headerFields s f.toNat 0x0008 14)) .arp with unit := .body f }

/-- 43 R170, R172, R180 to R183, R186, R187, R190, R191: the header of the registration, flush and verify rows, with no
flag meaning. -/
def Obligations.PlainBodyHeaderResult : Prop :=
  ∀ (s : State) (f : Word), f.toNat + 16 ≤ s.lim →
    ∀ e ∈ [(Instr.registerRequest f, (0x0004 : Half), 6, BodyKind.registration),
           (.registerResponse f, 0x0104, 7, .registration), (.unregisterRequest f, 0x0005, 8, .registration),
           (.unregisterResponse f, 0x0105, 9, .registration), (.flushRequest f, 0x0007, 12, .flush),
           (.flushResponse f, 0x0107, 13, .flush), (.verifyRequest f, 0x000A, 16, .verify),
           (.verifyResponse f, 0x010A, 17, .verify)],
      exec e.1 s = .next
        { bodyChosen (consume s f.toNat (headerFields s f.toNat e.2.1 e.2.2.1)) e.2.2.2 with unit := .body f }

/-- 43 R170, R189, R192, 44 R221: TOPOLOGY_REQUEST and an unknown opcode have no body, so the job ends. -/
def Obligations.NoBodyHeaderResult : Prop :=
  ∀ (s : State) (f : Word), f.toNat + 16 ≤ s.lim →
    exec (.topologyRequest f) s =
      .next (ended (bodyChosen (consume s f.toNat (headerFields s f.toNat 0x0009 15)) .topology)) ∧
    ∀ op : Half, (∀ e ∈ opcodeRows, op ≠ e.2.1) →
      exec (.lecUnknown op f) s =
        .next (ended (bodyChosen (consume s f.toNat (headerFields s f.toNat op 31)) .none))

/-- 43 R170, 20 R66, 60 R263: a header field that passes the limit raises at its offset, with every field before it
kept. For every row but READY's two (which an opcode inside the limit never truncates) and for an unknown opcode. That
the cursor stands at the last kept field's end is deduced from 10_state R41 (log entry 5). -/
def Obligations.HeaderTruncation : Prop :=
  ∀ (s : State) (f : Word) (i : Instr) (op : Half) (cls : Nat),
    ((∃ e ∈ opcodeRows, i = e.1 f ∧ op = e.2.1 ∧ cls = e.2.2.1 ∧ cls ≠ 4 ∧ cls ≠ 5) ∨
      (i = .lecUnknown op f ∧ cls = 31 ∧ ∀ e ∈ opcodeRows, op ≠ e.2.1)) →
    ∀ pre x post, headerFields s f.toNat op cls = pre ++ x :: post → (pre = [] ∨ f.toNat + x.1 ≤ s.lim) →
      s.lim < f.toNat + x.1 + x.2.1 →
      exec i s = .next (raised (consume s f.toNat pre) .truncatedBuffer .leControl (f.toNat + x.1))

/-- 43 R174 (Exceptions): a frame that ends before its opcode raises at the first field that does not fit. That no row
is selected there is the model's reading (log entry 18); that the cursor stands at the last kept field's end is deduced
from 10_state R41 (log entry 5). -/
def Obligations.ShortFrameRaises : Prop :=
  ∀ (s : State) (f : Word), s.port = [] → s.phase = .busy → s.unit = .lec f → s.lim < f.toNat + 6 →
    ∀ pre x post, (headerFields s f.toNat 0 31).take 4 = pre ++ x :: post → (pre = [] ∨ f.toNat + x.1 ≤ s.lim) →
      s.lim < f.toNat + x.1 + x.2.1 →
      step s = .next (raised (consume s f.toNat pre) .truncatedBuffer .leControl (f.toNat + x.1))

/-! The LE Control bodies (44_le_bodies). -/

/-- 44 R211, R212, 30 R90, R91, R105: CJ_BODY up to its TLV walk: with the DOC layout in this spec's block, and with either
CJ_LAYOUT in a block of any parameters whose ELAN_NAME_MAX fits the name slot. -/
def Obligations.CjBodyResult : Prop :=
  (∀ (s : State) (f : Word),
    f.toNat + 76 + min (byteAt s (f.toNat + 75)).toNat 32 ≤ s.lim →
    exec (.cjBody f) s = .next
      { wrote (headAt Config.aldb s f.toNat) 0x3F00000 (fun r => { r with
          atm1 := BitVec.ofNat 160 (be s (f.toNat + 52) 20), lanType := byteAt s (f.toNat + 72)
          maxFrame := byteAt s (f.toNat + 73), numTlvs := byteAt s (f.toNat + 74)
          nameSize := byteAt s (f.toNat + 75)
          nameLen := BitVec.ofNat 6 (min (byteAt s (f.toNat + 75)).toNat 32)
          name :=
            if byteAt s (f.toNat + 75) = 0 then r.name
            else nameAt s (f.toNat + 76) (min (byteAt s (f.toNat + 75)).toNat 32) })
        with
          cur := f.toNat + 108
          unit := .tlv (BitVec.ofNat 32 (f.toNat + 108)) (byteAt s (f.toNat + 74)) }) ∧
  (∀ (c : Config) (s : State) (f : Word), c.elanNameMax ≤ 32 →
    f.toNat + 76 + cjNameLen c s f.toNat ≤ s.lim →
    execIn c (.cjBody f) s = .next
      { wrote (consume (headAt c s f.toNat) f.toNat (cjFields c s f.toNat)) 0x2000000 (fun r => { r with
          name :=
            if cjNameLen c s f.toNat = 0 then r.name
            else nameAt s (f.toNat + 76) (cjNameLen c s f.toNat) })
        with
          cur := f.toNat + 108
          unit := .tlv (BitVec.ofNat 32 (f.toNat + 108)) (byteAt s (f.toNat + cjScalarsAt c + 2)) })

/-- 44 R213, R214, 30 R92: REG_BODY up to its TLV walk; its reserved bytes are neither read nor checked. -/
def Obligations.RegBodyResult : Prop :=
  ∀ (s : State) (f : Word), f.toNat + 55 ≤ s.lim →
    exec (.regBody f) s = .next
      { wrote (headAt Config.aldb s f.toNat) 0x800000 (fun r => { r with numTlvs := byteAt s (f.toNat + 54) })
        with
          cur := f.toNat + 108
          unit := .tlv (BitVec.ofNat 32 (f.toNat + 108)) (byteAt s (f.toNat + 54)) }

/-- 44 R215, 30 R93: ARP_BODY up to its TLV walk. -/
def Obligations.ArpBodyResult : Prop :=
  ∀ (s : State) (f : Word), f.toNat + 76 ≤ s.lim →
    exec (.arpBody f) s = .next
      { wrote (headAt Config.aldb s f.toNat) 0x900000 (fun r => { r with
          numTlvs := byteAt s (f.toNat + 54), atm1 := BitVec.ofNat 160 (be s (f.toNat + 56) 20) })
        with
          cur := f.toNat + 108
          unit := .tlv (BitVec.ofNat 32 (f.toNat + 108)) (byteAt s (f.toNat + 54)) }

/-- 44 R219, 30 R95: FLUSH_BODY has no TLVs, so the job ends with it. -/
def Obligations.FlushBodyResult : Prop :=
  ∀ (s : State) (f : Word), f.toNat + 76 ≤ s.lim →
    exec (.flushBody f) s = .next (ended
      { wrote (headAt Config.aldb s f.toNat) 0x100000 (fun r => { r with
          atm1 := BitVec.ofNat 160 (be s (f.toNat + 56) 20) })
        with cur := f.toNat + 108 })

/-- 44 R217, 30 R94: VERIFY_BODY, entered with its cursor at F+16: its fields, or the error at the first of its two reads
that does not fit. -/
def Obligations.VerifyBodyResult : Prop :=
  ∀ (s : State) (f : Word), s.cur = f.toNat + 16 →
    exec (.verifyBody f) s = .next (
      if s.lim < f.toNat + 55 then
        raised { s with cur := f.toNat + 54 } .truncatedBuffer .leBody (f.toNat + 54)
      else if s.lim < f.toNat + 76 then
        raised
          { wrote s 0x800000 (fun r => { r with numTlvs := byteAt s (f.toNat + 54) }) with cur := f.toNat + 56 }
          .truncatedBuffer .leBody (f.toNat + 56)
      else
        { wrote s 0x900000 (fun r => { r with
            numTlvs := byteAt s (f.toNat + 54), atm1 := BitVec.ofNat 160 (be s (f.toNat + 56) 20) })
          with
            cur := f.toNat + 108
            unit := .tlv (BitVec.ofNat 32 (f.toNat + 108)) (byteAt s (f.toNat + 54)) })

/-- 44 R210, 45 R240, 20 R66, 60 R263: where a body of the other four kinds ends at each field that does not fit, and what
it keeps, in a block of any parameters; in this spec's block `exec` does the same. -/
def Obligations.BodyTruncation : Prop :=
  (∀ (s : State) (f : Word), ∀ i ∈ [Instr.cjBody f, .regBody f, .arpBody f, .flushBody f],
    exec i s = execIn Config.aldb i s) ∧
  (∀ (c : Config) (s : State) (f : Word), ∀ i ∈ [Instr.cjBody f, .regBody f, .arpBody f, .flushBody f],
    (∀ o, ldCut c s (f.toNat + 16) = some o → execIn c i s = .next (raised s .truncatedBuffer .lanDest o)) ∧
    (ldCut c s (f.toNat + 16) = none → ∀ o, ldCut c s (f.toNat + 24) = some o →
      execIn c i s = .next (raised
        { wrote s 0x20000 (fun r => { r with ld0 := ldAt c s (f.toNat + 16) r.ld0 }) with cur := f.toNat + 24 }
        .truncatedBuffer .lanDest o)) ∧
    (ldCut c s (f.toNat + 16) = none → ldCut c s (f.toNat + 24) = none → s.lim < f.toNat + 52 →
      execIn c i s = .next (raised
        { wrote s 0x60000 (fun r => { r with
            ld0 := ldAt c s (f.toNat + 16) r.ld0, ld1 := ldAt c s (f.toNat + 24) r.ld1 })
          with cur := f.toNat + 32 }
        .truncatedBuffer .leBody (f.toNat + 32))) ∧
    (f.toNat + 52 ≤ s.lim → s.lim < f.toNat + 55 → i = .regBody f ∨ i = .arpBody f →
      execIn c i s = .next (raised { headAt c s f.toNat with cur := f.toNat + 54 } .truncatedBuffer .leBody
        (f.toNat + 54))) ∧
    (f.toNat + 55 ≤ s.lim → s.lim < f.toNat + 76 → i = .arpBody f →
      execIn c i s = .next (raised
        { wrote (headAt c s f.toNat) 0x800000 (fun r => { r with numTlvs := byteAt s (f.toNat + 54) })
          with cur := f.toNat + 56 }
        .truncatedBuffer .leBody (f.toNat + 56))) ∧
    (f.toNat + 52 ≤ s.lim → s.lim < f.toNat + 76 → i = .flushBody f →
      execIn c i s = .next (raised { headAt c s f.toNat with cur := f.toNat + 56 } .truncatedBuffer .leBody
        (f.toNat + 56)))) ∧
  (∀ (c : Config) (s : State) (f : Word),
    (∀ pre x post, cjFields c s f.toNat = pre ++ x :: post → f.toNat + x.1 ≤ s.lim →
      s.lim < f.toNat + x.1 + x.2.1 →
      execIn c (.cjBody f) s = .next (raised (consume (headAt c s f.toNat) f.toNat pre) .truncatedBuffer .leBody
        (f.toNat + x.1))) ∧
    (c.elanNameMax ≤ 32 → f.toNat + 76 ≤ s.lim → s.lim < f.toNat + 76 + cjNameLen c s f.toNat →
      execIn c (.cjBody f) s = .next (raised
        (consume (headAt c s f.toNat) f.toNat (cjFields c s f.toNat)) .truncatedBuffer .leBody (f.toNat + 76))))

/-! LAN destinations and TLVs (45_lan_dest_tlv). -/

/-- 45 R240 to R244: LD_DECODE into either slot: its three forms, and its errors, which write nothing. -/
def Obligations.LdDecodeResult : Prop :=
  ∀ (s : State) (d : Word) (slot : BitVec 8), slot = 0 ∨ slot = 1 →
    exec (.ldDecode d slot) s = .next (
      if s.lim < d.toNat + 2 then raised s .truncatedBuffer .lanDest d.toNat
      else if be s d.toNat 2 = 1 ∧ s.lim < d.toNat + 8 then raised s .truncatedBuffer .lanDest (d.toNat + 2)
      else if be s d.toNat 2 = 2 ∧ s.lim < d.toNat + 8 then raised s .truncatedBuffer .lanDest (d.toNat + 6)
      else if slot = 0 then
        { wrote s 0x20000 (fun r => { r with ld0 := ldAt Config.aldb s d.toNat r.ld0 }) with cur := d.toNat + 8 }
      else { wrote s 0x40000 (fun r => { r with ld1 := ldAt Config.aldb s d.toNat r.ld1 }) with cur := d.toNat + 8 })

/-- 45 R245, R247, R248: a walk whose entries fit gives exactly its count of records and its length to the cursor. -/
def Obligations.TlvWalkResult : Prop :=
  ∀ (s : State) (o : Word) (n : BitVec 8), (∀ k < n.toNat, tlvStart s.buf o.toNat (k + 1) ≤ s.lim) →
    ∃ slots, exec (.tlvWalk o n) s = .next (ended
      { wrote s 0x4000000 (fun r => { r with tlvsDone := n.setWidth 9, tlvs := slots })
        with cur := tlvStart s.buf o.toNat n.toNat }) ∧
      ∀ k, tlvSlot slots k = if k < n.toNat then tlvEntry s.buf o.toNat k else tlvSlot s.r.tlvs k

/-- 45 R245, R246: the first entry that does not fit ends the walk; the entries before it stay, nothing of it is
written. -/
def Obligations.TlvWalkErrors : Prop :=
  ∀ (s : State) (o : Word) (n : BitVec 8) (j : Nat), j < n.toNat →
    (∀ k < j, tlvStart s.buf o.toNat (k + 1) ≤ s.lim) → s.lim < tlvStart s.buf o.toNat (j + 1) →
    ∃ slots, exec (.tlvWalk o n) s = .next (raised
      { wrote s 0x4000000 (fun r => { r with tlvsDone := BitVec.ofNat 9 j, tlvs := slots })
        with cur := tlvStart s.buf o.toNat j }
      (if s.lim < tlvStart s.buf o.toNat j + 5 then .truncatedBuffer else .malformedLength) .tlv
      (if s.lim < tlvStart s.buf o.toNat j + 4 then tlvStart s.buf o.toNat j
       else tlvStart s.buf o.toNat j + 4)) ∧
      ∀ k, tlvSlot slots k = if k < j then tlvEntry s.buf o.toNat k else tlvSlot s.r.tlvs k

/-! The host's side (10_state, 20_memory, 60_exceptions, 70_reset). -/

/-- 10 R31: what the START that begins a job does in one step, and that the job reads the latch alone. -/
def Obligations.StartLatchesAndClears : Prop :=
  (∀ (s : State) (rest : List PortOp) (v : Word), s.port = .wr 0x000 4 v :: rest → s.phase = .idle →
    v.getLsbD 0 = true → v.getLsbD 1 = false →
    step s = .next { s with
      port := rest, irqEn := v.getLsbD 2, r := Record.zero, valid := 0, done := false, errCode := .none
      errUnit := .none, errOffset := 0, phase := .busy, cur := 0, unit := .job
      dl := {
        l := s.desc.capLen, rl := s.desc.repLen
        aal := BitVec.ofNat 8 s.desc.cls.toNat, trafType := BitVec.ofNat 8 (s.desc.cls.toNat / 0x100)
        trafSubtype := BitVec.ofNat 8 (s.desc.cls.toNat / 0x10000)
        channel := BitVec.ofNat 8 (s.desc.cls.toNat / 0x1000000)
        truncated := s.desc.flags.getLsbD 0, cellCount := s.desc.cellCount
        metaUu := BitVec.ofNat 8 s.desc.metaA.toNat, metaCpi := BitVec.ofNat 8 (s.desc.metaA.toNat / 0x100)
        metaLen := BitVec.ofNat 16 (s.desc.metaA.toNat / 0x10000), metaCrc := s.desc.metaCrc } }) ∧
  (∀ (s : State) (d : Descriptor), s.port = [] → s.phase = .busy →
    step { s with desc := d } = mapNext (fun t => { t with desc := d }) (step s))

/-- 10 R22, R23, 60 R260, R268, 70 R285: a CTRL write that starts nothing and resets nothing changes IRQ_EN alone, and
a STATUS write can clear DONE alone. -/
def Obligations.ControlAndStatusWrites : Prop :=
  ∀ (s : State) (rest : List PortOp) (v : Word),
    (s.port = .wr 0x000 4 v :: rest → v.getLsbD 1 = false → v.getLsbD 0 = false ∨ s.phase = .busy →
      step s = .next { s with port := rest, irqEn := v.getLsbD 2 }) ∧
    (s.port = .wr 0x004 4 v :: rest → step s = .next { s with port := rest, done := s.done && !v.getLsbD 1 })

/-- 10 R22, R47, 70 R280: SOFT_RESET at any time, whatever else the write holds, START too; every register then has the
value R47 gives it. What it leaves of the port,
the port's last values and the count of free values is the model's choice (log entry 15). -/
def Obligations.SoftResetResult : Prop :=
  ∀ (s : State) (rest : List PortOp) (v : Word), s.port = .wr 0x000 4 v :: rest → v.getLsbD 1 = true →
    step s = .next { State.reset with
      buf := s.buf, port := rest, rdata := s.rdata, bdata := s.bdata, freeCount := s.freeCount } ∧
    ∀ t, step s = .next t → ResetValues t

/-- 10 R26 to R30, 70 R285: a descriptor register takes a write while IDLE and ignores it while BUSY; D_FLAGS keeps bit
0 alone. -/
def Obligations.DescriptorWrites : Prop :=
  ∀ (s : State) (rest : List PortOp) (v : Word),
    ∀ e ∈ [(0x010, { s.desc with capLen := v }), (0x014, { s.desc with repLen := v }),
           (0x018, { s.desc with cls := v }), (0x01C, { s.desc with flags := BitVec.ofNat 32 (v.toNat % 2) }),
           (0x020, { s.desc with cellCount := v }), (0x024, { s.desc with metaA := v }),
           (0x028, { s.desc with metaCrc := v })],
      s.port = .wr e.1 4 v :: rest →
      step s = .next (
        if s.phase = .busy then { s with port := rest } else { s with port := rest, desc := e.2 })

/-- 10 R21: a write to any other address of the register space is ignored; a read of an unnamed one gives 0. -/
def Obligations.OtherWritesIgnored : Prop :=
  ∀ (s : State) (rest : List PortOp) (a : Nat) (v : Word), a % 4 = 0 → a < 0xE00 →
    (s.port = .wr a 4 v :: rest → a ≠ 0x000 → a ≠ 0x004 → ¬ (0x010 ≤ a ∧ a ≤ 0x028) →
      step s = .next { s with port := rest }) ∧
    (s.port = .rd a 4 :: rest → ¬ namedAddress a → step s = .next { s with port := rest, rdata := 0 })

/-- 10 R22 to R39, R44, R46: the scalar registers as the host reads them while IDLE, which changes nothing (70 R286); with
the numbers of ERR_CODE (60 R261), ERR_UNIT (60 R262), TARGET (10 R44) and BODY (30 R98). -/
def Obligations.ScalarRegisterReads : Prop :=
  (∀ e ∈ [(ErrKind.none, 0), (.truncatedBuffer, 1), (.malformedLength, 2), (.badDescriptor, 3)],
    e.1.code.toNat = e.2) ∧
  (∀ e ∈ [(ErrUnit.none, 0), (.job, 1), (.cellHeader, 2), (.aal5, 3), (.laneDispatch, 4), (.leControl, 5), (.leBody, 6),
          (.lanDest, 7), (.tlv, 8)],
    e.1.code.toNat = e.2) ∧
  (∀ e ∈ [(Target.none, 0), (.sscop, 1), (.llc, 2), (.leControl, 3), (.ethernet, 4), (.tokenRing, 5), (.ilmi, 6),
          (.raw, 7), (.aalCellBody, 8)],
    e.1.code.toNat = e.2) ∧
  (∀ e ∈ [(BodyKind.none, 0), (.configureJoin, 1), (.registration, 2), (.arp, 3), (.verify, 4), (.flush, 5),
          (.topology, 6)],
    e.1.code.toNat = e.2) ∧
  ∀ (s : State) (rest : List PortOp), s.phase = .idle →
    ∀ e ∈ [(0x000, 4 * s.irqEn.toNat), (0x004, 2 * s.done.toNat + 16 * s.errCode.code.toNat + 256 * s.errUnit.code.toNat),
           (0x008, s.errOffset.toNat), (0x00C, 0), (0x010, s.desc.capLen.toNat), (0x014, s.desc.repLen.toNat),
           (0x018, s.desc.cls.toNat), (0x01C, s.desc.flags.toNat), (0x020, s.desc.cellCount.toNat),
           (0x024, s.desc.metaA.toNat), (0x028, s.desc.metaCrc.toNat), (0x040, s.valid.toNat),
           (0x048, s.r.dispTarget.code.toNat), (0x04C, s.r.dispOff.toNat), (0x050, s.r.dispLen.toNat),
           (0x054, s.r.vpi.toNat + 2 ^ 12 * s.r.gfc.toNat + 2 ^ 16 * s.r.vci.toNat),
           (0x058, s.r.pt.toNat + 8 * s.r.clp.toNat + 256 * s.r.hec.toNat), (0x05C, s.r.a5Cells.toNat),
           (0x060, s.r.uu.toNat + 256 * s.r.cpi.toNat + 2 ^ 16 * s.r.len.toNat), (0x064, s.r.crc.toNat),
           (0x068, s.r.padOff.toNat), (0x06C, s.r.padLen.toNat),
           (0x070, s.r.trailerSrc.toNat + 2 * s.r.cellsSrc.toNat), (0x074, s.r.laneClient.toNat),
           (0x080, s.r.marker.toNat + 2 ^ 16 * s.r.protocol.toNat + 2 ^ 24 * s.r.version.toNat),
           (0x084, s.r.opcode.toNat + 2 ^ 16 * s.r.opclass.toNat + 2 ^ 24 * s.r.body.code.toNat),
           (0x088, s.r.status.toNat), (0x08C, s.r.transId.toNat),
           (0x090, s.r.reqLecId.toNat + 2 ^ 16 * s.r.flags.toNat),
           (0x094, s.r.remote.toNat + 2 * s.r.v2Capable.toNat),
           (0x098, s.r.lanType.toNat + 256 * s.r.maxFrame.toNat + 2 ^ 16 * s.r.nameSize.toNat
             + 2 ^ 24 * s.r.nameLen.toNat),
           (0x09C, s.r.numTlvs.toNat + 2 ^ 16 * s.r.tlvsDone.toNat)],
      s.port = .rd e.1 4 :: rest → step s = .next { s with port := rest, rdata := BitVec.ofNat 32 e.2 }

/-- 10 R39, R43, R45: the packed registers as the host reads them while IDLE, with the numbers of KIND (R39). -/
def Obligations.PackedRegisterReads : Prop :=
  (∀ e ∈ [(LdKind.notPresent, 0), (.macAddress, 1), (.routeDescriptor, 2)], e.1.code.toNat = e.2) ∧
  ∀ (s : State) (rest : List PortOp) (a w k : Nat), s.phase = .idle → s.port = .rd a 4 :: rest →
    (a = 0x0A0 ∧ w = s.r.ld0.tag.toNat + 2 ^ 16 * s.r.ld0.kind.code.toNat ∨
     a = 0x0A4 ∧ w = s.r.ld0.mac.toNat / 2 ^ 16 ∨
     a = 0x0A8 ∧ w = s.r.ld0.mac.toNat % 2 ^ 16 + 2 ^ 16 * s.r.ld0.lanId.toNat + 2 ^ 28 * s.r.ld0.bridge.toNat ∨
     a = 0x0AC ∧ w = s.r.ld1.tag.toNat + 2 ^ 16 * s.r.ld1.kind.code.toNat ∨
     a = 0x0B0 ∧ w = s.r.ld1.mac.toNat / 2 ^ 16 ∨
     a = 0x0B4 ∧ w = s.r.ld1.mac.toNat % 2 ^ 16 + 2 ^ 16 * s.r.ld1.lanId.toNat + 2 ^ 28 * s.r.ld1.bridge.toNat ∨
     k < 5 ∧ a = 0x0C0 + 4 * k ∧ w = s.r.atm0.toNat / 2 ^ (128 - 32 * k) ∨
     k < 5 ∧ a = 0x0E0 + 4 * k ∧ w = s.r.atm1.toNat / 2 ^ (128 - 32 * k) ∨
     k < 8 ∧ a = 0x100 + 4 * k ∧ w = s.r.name.toNat / 2 ^ (224 - 32 * k) ∨
     k < 255 ∧ a = 0x200 + 12 * k ∧ w = (tlvSlot s.r.tlvs k).typ.toNat ∨
     k < 255 ∧ a = 0x204 + 12 * k ∧ w = (tlvSlot s.r.tlvs k).len.toNat ∨
     k < 255 ∧ a = 0x208 + 12 * k ∧ w = (tlvSlot s.r.tlvs k).voff.toNat) →
    step s = .next { s with port := rest, rdata := BitVec.ofNat 32 w }

/-- 70 R285: while BUSY a STATUS read gives BUSY = 1 and DONE = 0, and CTRL, CONFIG and the descriptor registers read what
they hold; a result register or ERR_OFFSET gives any value, which moves the model's count of free values and nothing else
(log entry 4). -/
def Obligations.ReadsWhileBusy : Prop :=
  ∀ (s : State) (rest : List PortOp), Inv s → s.phase = .busy →
    (s.port = .rd 0x004 4 :: rest → step s = .next { s with port := rest, rdata := 1 }) ∧
    (∀ e ∈ [(0x000, 4 * s.irqEn.toNat), (0x00C, 0), (0x010, s.desc.capLen.toNat), (0x014, s.desc.repLen.toNat),
            (0x018, s.desc.cls.toNat), (0x01C, s.desc.flags.toNat), (0x020, s.desc.cellCount.toNat),
            (0x024, s.desc.metaA.toNat), (0x028, s.desc.metaCrc.toNat)],
      s.port = .rd e.1 4 :: rest → step s = .next { s with port := rest, rdata := BitVec.ofNat 32 e.2 }) ∧
    (∀ a, a % 4 = 0 → namedAddress a → a = 0x008 ∨ 0x040 ≤ a → s.port = .rd a 4 :: rest →
      step s = .next { s with
        port := rest, rdata := Config.busyRead s.freeCount, freeCount := s.freeCount + 1 })

/-- 20 R62: a register access that is no aligned 32-bit word is refused; an aligned word of the register space is served.
That an EXPECT is such an access, refused before its value is looked at, is the model's choice (log entries 11, 12). -/
def Obligations.RegisterAccessShape : Prop :=
  ∀ (s : State) (rest : List PortOp) (a size : Nat) (v : Word),
    (s.port = .wr a size v :: rest ∨ s.port = .rd a size :: rest →
      (size ≠ 4 ∨ a % 4 ≠ 0 → step s = .refused (.registerAccessShape a size)) ∧
      (size = 4 → a % 4 = 0 → a < 0xE00 → ∃ t, step s = .next t)) ∧
    (s.port = .expect a v :: rest → a % 4 ≠ 0 → step s = .refused (.registerAccessShape a 4))

/-- 20 R60, 10 R49, 70 R284: the buffer port, and the bounds of both ports. That a write while BUSY is refused and an
access outside either space faults is the model's choice (log entries 10, 11). -/
def Obligations.BufferPortAndBounds : Prop :=
  ∀ (s : State) (rest : List PortOp) (o : Nat) (b : Byte) (v : Word),
    (s.port = .bufWr o b :: rest → o < 65568 → s.phase = .idle →
      ∃ m, step s = .next { s with port := rest, buf := m } ∧ Memory.read m o = b ∧
        (∀ a, a ≠ o → Memory.read m a = byteAt s a) ∧ (s.buf.wf = true → m.wf = true)) ∧
    (s.port = .bufWr o b :: rest → o < 65568 → s.phase = .busy → step s = .refused (.bufferWriteWhileBusy o)) ∧
    (s.port = .bufRd o :: rest → o < 65568 → step s = .next { s with port := rest, bdata := byteAt s o }) ∧
    (s.port = .bufWr o b :: rest ∨ s.port = .bufRd o :: rest → 65568 ≤ o →
      step s = .fault (.bufferOffsetOutside o)) ∧
    (s.port = .wr o 4 v :: rest ∨ s.port = .rd o 4 :: rest ∨ s.port = .expect o v :: rest → o % 4 = 0 → 0xE00 ≤ o →
      step s = .fault (.registerAddressOutside o))

/-- 30 R108: WAIT ends when DONE = 1; an EXPECT compares what RD of its address gives, in any phase: one that holds leaves
the host's last read value as it was, one that does not stops the host's program. That both are steps of the machine, and
that a failed EXPECT is a fault, is the model's choice (log entries 2, 12); that a WAIT in IDLE polls on for ever is deduced
(log entry 23). -/
def Obligations.WaitAndExpect : Prop :=
  ∀ (s : State) (rest : List PortOp),
    (s.port = .wait :: rest → s.done = true → step s = .next { s with port := rest }) ∧
    (s.port = .wait :: rest → s.done = false → s.phase = .idle → step s = .next s) ∧
    (∀ v, s.phase = .idle → s.port = .expect 0x040 v :: rest →
      step s = if s.valid = v then .next { s with port := rest } else .fault (.expectationFailed 0x040 s.valid)) ∧
    (∀ (a : Nat) (v : Word), a % 4 = 0 → a < 0xE00 → s.port = .expect a v :: rest →
      ∃ t, step { s with port := .rd a 4 :: rest } = .next t ∧
        step s = if t.rdata = v then .next { t with rdata := s.rdata } else .fault (.expectationFailed a t.rdata))

/-- 10 R25: CONFIG shows the two parameters of the block, is 0 for this spec, and no write and no reset changes it. -/
def Obligations.ConfigRegister : Prop :=
  (∀ c : Config, (configWord c).toNat =
    (if c.cjLayout = .standard then 1 else 0) + (if c.gfcNibble = .high then 2 else 0)) ∧
  (∀ (c : Config) (s : State) (rest : List PortOp), s.port = .rd 0x00C 4 :: rest →
    stepIn c s = .next { s with
      port := rest
      rdata := BitVec.ofNat 32 ((if c.cjLayout = .standard then 1 else 0) + (if c.gfcNibble = .high then 2 else 0)) }) ∧
  (∀ (c : Config) (s : State) (rest : List PortOp) (v : Word), s.port = .wr 0x00C 4 v :: rest →
    stepIn c s = .next { s with port := rest }) ∧
  (∀ (s : State) (rest : List PortOp), s.port = .rd 0x00C 4 :: rest →
    step s = .next { s with port := rest, rdata := 0 }) ∧
  (∀ (s : State) (rest : List PortOp) (v : Word), s.port = .wr 0x00C 4 v :: rest →
    step s = .next { s with port := rest })

/-- 60 R267: irq is the level DONE AND IRQ_EN. It rises at the end of a job, or when the host enables it with DONE already
1, and otherwise never; a job's end with IRQ_EN = 1 leaves it high; a write of 1 to DONE, a START, a SOFT_RESET or a write
that masks it leaves it low. -/
def Obligations.InterruptSource : Prop :=
  (∀ s : State, s.irq = true ↔ s.done = true ∧ s.irqEn = true) ∧
  (∀ s t : State, step s = .next t → s.irq = false → t.irq = true →
    (s.phase = .busy ∧ t.phase = .idle) ∨
    (s.done = true ∧ ∃ v rest, s.port = .wr 0x000 4 v :: rest ∧ v.getLsbD 2 = true)) ∧
  (∀ s t : State, step s = .next t → s.phase = .busy → t.phase = .idle → t.irqEn = true → t.irq = true) ∧
  (∀ (s : State) (rest : List PortOp) (v : Word),
    (s.port = .wr 0x004 4 v :: rest ∧ v.getLsbD 1 = true) ∨
      (s.port = .wr 0x000 4 v :: rest ∧
        (v.getLsbD 1 = true ∨ (v.getLsbD 0 = true ∧ s.phase = .idle) ∨ v.getLsbD 2 = false)) →
    ∃ t, step s = .next t ∧ t.irq = false)

/-- 10 R42, 60 R260, R263, R268: the engine leaves IDLE by a START alone, and BUSY by the end of its job or by a
SOFT_RESET alone. -/
def Obligations.PhaseMoves : Prop :=
  ∀ s t : State, step s = .next t →
    (s.phase = .idle → t.phase = .busy →
      ∃ v rest, s.port = .wr 0x000 4 v :: rest ∧ v.getLsbD 0 = true ∧ v.getLsbD 1 = false) ∧
    (s.phase = .busy → t.phase = .idle →
      t.done = true ∨ ∃ v rest, s.port = .wr 0x000 4 v :: rest ∧ v.getLsbD 1 = true)

/-- 70 R286: while IDLE the results, R_VALID, the error and its offset stay as they are until the next START or reset. -/
def Obligations.ResultsHoldWhileIdle : Prop :=
  ∀ s t : State, s.phase = .idle → step s = .next t →
    (t.r = s.r ∧ t.valid = s.valid ∧ t.errCode = s.errCode ∧ t.errUnit = s.errUnit ∧ t.errOffset = s.errOffset) ∨
    ∃ v rest, s.port = .wr 0x000 4 v :: rest ∧ (v.getLsbD 0 = true ∨ v.getLsbD 1 = true)

/-! The whole machine. -/

/-- A step of a BUSY engine with no host transaction pending is `exec` of the row its unit selects; that one row is one
step is the model's choice (log entry 3). A pending tick leaves the step to the engine, by the model's choice (log entry 2);
an unfinished WAIT does too, deduced from its polling (30 R108, log entries 2 and 23). An IDLE engine with nothing pending
starts nothing by itself (70 R281, 60 R268); that its step gives the same state is deduced (log entry 22). In a block of any
parameters the same holds of its rows, and `exec`, `fetch` and `step` are those of a block with this spec's parameters
(00_scope R5). -/
def Obligations.StepRunsSelectedRow : Prop :=
  (∀ (s : State) (i : Instr), s.phase = .busy → fetch s = .row i →
    (s.port = [] → step s = exec i s) ∧
    (∀ rest, s.port = .tick :: rest → step s = exec i { s with port := rest }) ∧
    (∀ rest, s.port = .wait :: rest → s.done = false → step s = exec i s)) ∧
  (∀ s : State, s.port = [] → s.phase = .idle → step s = .next s) ∧
  (∀ (c : Config) (s : State) (i : Instr), s.phase = .busy → fetchIn c s = .row i → s.port = [] →
    stepIn c s = execIn c i s) ∧
  (∀ (i : Instr) (s : State),
    exec i s = execIn Config.aldb i s ∧ fetch s = fetchIn Config.aldb s ∧ step s = stepIn Config.aldb s)

/-- 20 R60, R61, 60 R263: every row completes, and none changes the buffer, the descriptor, the latch, IRQ_EN or the
host's port, nor clears a valid bit. -/
def Obligations.EveryRowKeepsEngineFrame : Prop :=
  ∀ (i : Instr) (s : State), ∃ t, exec i s = .next t ∧ EngineFrame s t ∧ keepsValid s t

/-- 60 R263: a row that records an error has ended the job: DONE, IDLE, a unit named. -/
def Obligations.ErrorEndsJob : Prop :=
  ∀ (i : Instr) (s t : State), s.errCode = .none → exec i s = .next t → t.errCode ≠ .none →
    t.done = true ∧ t.phase = .idle ∧ t.unit = .job ∧ t.errUnit ≠ .none

/-- 20 R60, R66: no row's result depends on a byte at or above its read limit. -/
def Obligations.RowReadsOnlyBelowLimit : Prop :=
  ∀ (i : Instr) (s : State) (m : Memory), (∀ a < limitOf i s, Memory.read m a = Memory.read s.buf a) →
    exec i { s with buf := m } = mapNext (fun t => { t with buf := m }) (exec i s)

/-- 10 R47, 70 R280: the machine after power-on has the values R47 gives, every register reading 0, and meets the
invariant. -/
def Obligations.InvHoldsAtReset : Prop := ResetValues State.reset ∧ Inv State.reset ∧ ZeroUnlessValid State.reset

/-- Every step keeps the invariant: the buffer's form, the clean status while BUSY, the error pair, the limit and the
cursor's bounds, the reserved bits, and the operands of the unit about to run. -/
def Obligations.StepKeepsInv : Prop := ∀ s t : State, Inv s → step s = .next t → Inv t

/-- 10 R32: every step keeps `a field whose valid bit is 0 reads 0`. -/
def Obligations.StepKeepsZeroUnlessValid : Prop :=
  ∀ s t : State, ZeroUnlessValid s → step s = .next t → ZeroUnlessValid t

/-- 30 R104, 60 R266, 70 R289: a running job ends by itself, whatever its data: at most six rows, none of which stops.
That a row is one step, so that six steps are enough, is the model's choice (log entry 3); JOB_LATENCY is open. -/
def Obligations.BusyJobEnds : Prop :=
  ∀ s : State, Inv s → s.phase = .busy → s.port = [] →
    ∃ t, runFor 6 s = some t ∧ t.phase = .idle ∧ t.done = true ∧ t.buf = s.buf ∧ t.desc = s.desc

/-- 20 R69, 70 R288: what a job reports depends on its descriptor and on the captured bytes alone, on nothing an earlier
job left. That START is a step and six more end the job is the model's choice (log entries 2, 3). -/
def Obligations.JobIndependentOfEarlierRecord : Prop :=
  ∀ s s' : State, Inv s → Inv s' → s.phase = .idle → s'.phase = .idle → s.port = [.wr 0x000 4 1] →
    s'.port = [.wr 0x000 4 1] → s'.desc = s.desc →
    (∀ a < s.desc.capLen.toNat, byteAt s' a = byteAt s a) →
    ∃ t t', runFor 7 s = some t ∧ runFor 7 s' = some t' ∧ report t = report t' ∧ t.done = true

/-- 70 R283: START with every descriptor register at its reset value runs JOB_CELL with L = 0, which ends with
TruncatedBuffer. That the job's one row is the step after START's is the model's choice (log entries 2, 3). -/
def Obligations.ResetDescriptorRunsJobCell : Prop :=
  ∀ s : State, s.phase = .idle → s.desc = State.reset.desc → s.port = [.wr 0x000 4 1] →
    ∃ t u, step s = .next t ∧ fetch t = .row .jobCell ∧ t.dl.l = 0 ∧ step t = .next u ∧
      u.phase = .idle ∧ u.done = true ∧ u.errCode = .truncatedBuffer ∧ u.errUnit = .cellHeader ∧ u.errOffset = 0 ∧
      u.valid = 0

/-- 60 R272, 00_scope R5: a step of one engine leaves every other engine of the block as it was, whatever the block's
parameters. -/
def Obligations.EnginesIndependent : Prop :=
  ∀ (c : Config) (b b' : Block) (k : Nat), Block.step c b k = .next b' →
    b'.length = b.length ∧ (∀ j, j ≠ k → b'[j]? = b[j]?) ∧
    ∃ s t, b[k]? = some s ∧ stepIn c s = .next t ∧ b'[k]? = some t

end Statements
end

