-- ==== Sys2Proof/Laws/Config.lean ====
section
/-! SUPPORT. Laws.Config: the values of this spec's configuration and of the valid bits' masks, so that no proof unfolds
the whole record. -/

namespace Sys2Proof.Laws

open Sys2Proof Sys2Proof.Machine

@[simp] theorem aldb_bufCap : Config.aldb.bufCap = 65568 := rfl
@[simp] theorem aldb_gfcNibble : Config.aldb.gfcNibble = .low := rfl
@[simp] theorem aldb_cjLayout : Config.aldb.cjLayout = .doc := rfl
@[simp] theorem aldb_ldTagMac : Config.aldb.ldTagMac = 1 := rfl
@[simp] theorem aldb_ldTagRoute : Config.aldb.ldTagRoute = 2 := rfl
@[simp] theorem aldb_elanNameMax : Config.aldb.elanNameMax = 32 := rfl
@[simp] theorem aldb_cellPayload : Config.aldb.cellPayload = 48 := rfl
@[simp] theorem aldb_tlvSlots : Config.aldb.tlvSlots = 255 := rfl
@[simp] theorem aldb_codes_aal1 : Config.aldb.codes.aal1 = 1 := rfl
@[simp] theorem aldb_codes_aal34 : Config.aldb.codes.aal34 = 3 := rfl
@[simp] theorem aldb_codes_aal5 : Config.aldb.codes.aal5 = 4 := rfl
@[simp] theorem aldb_codes_signalling : Config.aldb.codes.signalling = 6 := rfl
@[simp] theorem aldb_codes_oam : Config.aldb.codes.oam = 7 := rfl
@[simp] theorem aldb_codes_llcMux : Config.aldb.codes.llcMux = 1 := rfl
@[simp] theorem aldb_codes_lane : Config.aldb.codes.lane = 3 := rfl
@[simp] theorem aldb_codes_ilmi : Config.aldb.codes.ilmi = 4 := rfl
@[simp] theorem aldb_codes_leControl : Config.aldb.codes.leControl = 1 := rfl
@[simp] theorem aldb_codes_lane8023 : Config.aldb.codes.lane8023 = 2 := rfl
@[simp] theorem aldb_codes_lane8025 : Config.aldb.codes.lane8025 = 3 := rfl
@[simp] theorem aldb_codes_lane8023Mc : Config.aldb.codes.lane8023Mc = 4 := rfl
@[simp] theorem aldb_codes_lane8025Mc : Config.aldb.codes.lane8025Mc = 5 := rfl

@[simp] theorem mask_hdr : VBit.hdr.mask = 0x1#32 := rfl
@[simp] theorem mask_a5Trailer : VBit.a5Trailer.mask = 0x2#32 := rfl
@[simp] theorem mask_a5Cells : VBit.a5Cells.mask = 0x4#32 := rfl
@[simp] theorem mask_a5Pad : VBit.a5Pad.mask = 0x8#32 := rfl
@[simp] theorem mask_disp : VBit.disp.mask = 0x10#32 := rfl
@[simp] theorem mask_laneClient : VBit.laneClient.mask = 0x20#32 := rfl
@[simp] theorem mask_lecMarker : VBit.lecMarker.mask = 0x40#32 := rfl
@[simp] theorem mask_lecProtocol : VBit.lecProtocol.mask = 0x80#32 := rfl
@[simp] theorem mask_lecVersion : VBit.lecVersion.mask = 0x100#32 := rfl
@[simp] theorem mask_lecOpcode : VBit.lecOpcode.mask = 0x200#32 := rfl
@[simp] theorem mask_lecStatus : VBit.lecStatus.mask = 0x400#32 := rfl
@[simp] theorem mask_lecTransId : VBit.lecTransId.mask = 0x800#32 := rfl
@[simp] theorem mask_lecReqLecId : VBit.lecReqLecId.mask = 0x1000#32 := rfl
@[simp] theorem mask_lecFlags : VBit.lecFlags.mask = 0x2000#32 := rfl
@[simp] theorem mask_lecFlagRemote : VBit.lecFlagRemote.mask = 0x4000#32 := rfl
@[simp] theorem mask_lecFlagV2 : VBit.lecFlagV2.mask = 0x8000#32 := rfl
@[simp] theorem mask_lecBody : VBit.lecBody.mask = 0x10000#32 := rfl
@[simp] theorem mask_ld0 : VBit.ld0.mask = 0x20000#32 := rfl
@[simp] theorem mask_ld1 : VBit.ld1.mask = 0x40000#32 := rfl
@[simp] theorem mask_atm0 : VBit.atm0.mask = 0x80000#32 := rfl
@[simp] theorem mask_atm1 : VBit.atm1.mask = 0x100000#32 := rfl
@[simp] theorem mask_cjLanType : VBit.cjLanType.mask = 0x200000#32 := rfl
@[simp] theorem mask_cjMaxFrame : VBit.cjMaxFrame.mask = 0x400000#32 := rfl
@[simp] theorem mask_numTlvs : VBit.numTlvs.mask = 0x800000#32 := rfl
@[simp] theorem mask_cjNameSize : VBit.cjNameSize.mask = 0x1000000#32 := rfl
@[simp] theorem mask_cjName : VBit.cjName.mask = 0x2000000#32 := rfl
@[simp] theorem mask_tlvs : VBit.tlvs.mask = 0x4000000#32 := rfl

@[simp] theorem leValue_0 : leValue Config.aldb 0 = 0x0001#16 := rfl
@[simp] theorem leValue_1 : leValue Config.aldb 1 = 0x0101#16 := rfl
@[simp] theorem leValue_2 : leValue Config.aldb 2 = 0x0002#16 := rfl
@[simp] theorem leValue_3 : leValue Config.aldb 3 = 0x0102#16 := rfl
@[simp] theorem leValue_4 : leValue Config.aldb 4 = 0x0003#16 := rfl
@[simp] theorem leValue_5 : leValue Config.aldb 5 = 0x0103#16 := rfl
@[simp] theorem leValue_6 : leValue Config.aldb 6 = 0x0004#16 := rfl
@[simp] theorem leValue_7 : leValue Config.aldb 7 = 0x0104#16 := rfl
@[simp] theorem leValue_8 : leValue Config.aldb 8 = 0x0005#16 := rfl
@[simp] theorem leValue_9 : leValue Config.aldb 9 = 0x0105#16 := rfl
@[simp] theorem leValue_10 : leValue Config.aldb 10 = 0x0006#16 := rfl
@[simp] theorem leValue_11 : leValue Config.aldb 11 = 0x0106#16 := rfl
@[simp] theorem leValue_12 : leValue Config.aldb 12 = 0x0007#16 := rfl
@[simp] theorem leValue_13 : leValue Config.aldb 13 = 0x0107#16 := rfl
@[simp] theorem leValue_14 : leValue Config.aldb 14 = 0x0008#16 := rfl
@[simp] theorem leValue_15 : leValue Config.aldb 15 = 0x0009#16 := rfl
@[simp] theorem leValue_16 : leValue Config.aldb 16 = 0x000A#16 := rfl
@[simp] theorem leValue_17 : leValue Config.aldb 17 = 0x010A#16 := rfl
@[simp] theorem opclass_0 : opclass Config.aldb 0x0001#16 = 0 := rfl
@[simp] theorem opclass_1 : opclass Config.aldb 0x0101#16 = 1 := rfl
@[simp] theorem opclass_2 : opclass Config.aldb 0x0002#16 = 2 := rfl
@[simp] theorem opclass_3 : opclass Config.aldb 0x0102#16 = 3 := rfl
@[simp] theorem opclass_4 : opclass Config.aldb 0x0003#16 = 4 := rfl
@[simp] theorem opclass_5 : opclass Config.aldb 0x0103#16 = 5 := rfl
@[simp] theorem opclass_6 : opclass Config.aldb 0x0004#16 = 6 := rfl
@[simp] theorem opclass_7 : opclass Config.aldb 0x0104#16 = 7 := rfl
@[simp] theorem opclass_8 : opclass Config.aldb 0x0005#16 = 8 := rfl
@[simp] theorem opclass_9 : opclass Config.aldb 0x0105#16 = 9 := rfl
@[simp] theorem opclass_10 : opclass Config.aldb 0x0006#16 = 10 := rfl
@[simp] theorem opclass_11 : opclass Config.aldb 0x0106#16 = 11 := rfl
@[simp] theorem opclass_12 : opclass Config.aldb 0x0007#16 = 12 := rfl
@[simp] theorem opclass_13 : opclass Config.aldb 0x0107#16 = 13 := rfl
@[simp] theorem opclass_14 : opclass Config.aldb 0x0008#16 = 14 := rfl
@[simp] theorem opclass_15 : opclass Config.aldb 0x0009#16 = 15 := rfl
@[simp] theorem opclass_16 : opclass Config.aldb 0x000A#16 = 16 := rfl
@[simp] theorem opclass_17 : opclass Config.aldb 0x010A#16 = 17 := rfl
@[simp] theorem bodyKind_0 : bodyKind Config.aldb 0x0001#16 = .configureJoin := rfl
@[simp] theorem bodyKind_1 : bodyKind Config.aldb 0x0101#16 = .configureJoin := rfl
@[simp] theorem bodyKind_2 : bodyKind Config.aldb 0x0002#16 = .configureJoin := rfl
@[simp] theorem bodyKind_3 : bodyKind Config.aldb 0x0102#16 = .configureJoin := rfl
@[simp] theorem bodyKind_4 : bodyKind Config.aldb 0x0003#16 = .none := rfl
@[simp] theorem bodyKind_5 : bodyKind Config.aldb 0x0103#16 = .none := rfl
@[simp] theorem bodyKind_6 : bodyKind Config.aldb 0x0004#16 = .registration := rfl
@[simp] theorem bodyKind_7 : bodyKind Config.aldb 0x0104#16 = .registration := rfl
@[simp] theorem bodyKind_8 : bodyKind Config.aldb 0x0005#16 = .registration := rfl
@[simp] theorem bodyKind_9 : bodyKind Config.aldb 0x0105#16 = .registration := rfl
@[simp] theorem bodyKind_10 : bodyKind Config.aldb 0x0006#16 = .arp := rfl
@[simp] theorem bodyKind_11 : bodyKind Config.aldb 0x0106#16 = .arp := rfl
@[simp] theorem bodyKind_12 : bodyKind Config.aldb 0x0007#16 = .flush := rfl
@[simp] theorem bodyKind_13 : bodyKind Config.aldb 0x0107#16 = .flush := rfl
@[simp] theorem bodyKind_14 : bodyKind Config.aldb 0x0008#16 = .arp := rfl
@[simp] theorem bodyKind_15 : bodyKind Config.aldb 0x0009#16 = .topology := rfl
@[simp] theorem bodyKind_16 : bodyKind Config.aldb 0x000A#16 = .verify := rfl
@[simp] theorem bodyKind_17 : bodyKind Config.aldb 0x010A#16 = .verify := rfl

@[simp] theorem ldBit_zero : ldBit 0 = .ld0 := rfl

@[simp] theorem ldBit_one : ldBit 1 = .ld1 := rfl

/-- A valid bit just set reads 1. -/
theorem isValid_mask (v : BitVec 32) (b : VBit) : (v ||| b.mask).getLsbD b.index = true := by
  cases b <;> simp [VBit.index]

end Sys2Proof.Laws
end

