-- ==== Sys2Proof/Laws/State.lean ====
section
/-! SUPPORT. Laws.State: each field after each named update of the state. -/

namespace Sys2Proof.Laws

open Sys2Proof Sys2Proof.Machine

@[simp] theorem setV_irqEn (s : State) (b : VBit) : (s.setV b).irqEn = s.irqEn := rfl
@[simp] theorem setV_phase (s : State) (b : VBit) : (s.setV b).phase = s.phase := rfl
@[simp] theorem setV_done (s : State) (b : VBit) : (s.setV b).done = s.done := rfl
@[simp] theorem setV_errCode (s : State) (b : VBit) : (s.setV b).errCode = s.errCode := rfl
@[simp] theorem setV_errUnit (s : State) (b : VBit) : (s.setV b).errUnit = s.errUnit := rfl
@[simp] theorem setV_errOffset (s : State) (b : VBit) : (s.setV b).errOffset = s.errOffset := rfl
@[simp] theorem setV_desc (s : State) (b : VBit) : (s.setV b).desc = s.desc := rfl
@[simp] theorem setV_dl (s : State) (b : VBit) : (s.setV b).dl = s.dl := rfl
@[simp] theorem setV_r (s : State) (b : VBit) : (s.setV b).r = s.r := rfl
@[simp] theorem setV_valid (s : State) (b : VBit) : (s.setV b).valid = s.valid ||| b.mask := rfl
@[simp] theorem setV_cur (s : State) (b : VBit) : (s.setV b).cur = s.cur := rfl
@[simp] theorem setV_lim (s : State) (b : VBit) : (s.setV b).lim = s.lim := rfl
@[simp] theorem setV_unit (s : State) (b : VBit) : (s.setV b).unit = s.unit := rfl
@[simp] theorem setV_buf (s : State) (b : VBit) : (s.setV b).buf = s.buf := rfl
@[simp] theorem setV_port (s : State) (b : VBit) : (s.setV b).port = s.port := rfl
@[simp] theorem setV_rdata (s : State) (b : VBit) : (s.setV b).rdata = s.rdata := rfl
@[simp] theorem setV_bdata (s : State) (b : VBit) : (s.setV b).bdata = s.bdata := rfl
@[simp] theorem setV_freeCount (s : State) (b : VBit) : (s.setV b).freeCount = s.freeCount := rfl

@[simp] theorem endJob_irqEn (s : State) : (s.endJob).irqEn = s.irqEn := rfl
@[simp] theorem endJob_phase (s : State) : (s.endJob).phase = .idle := rfl
@[simp] theorem endJob_done (s : State) : (s.endJob).done = true := rfl
@[simp] theorem endJob_errCode (s : State) : (s.endJob).errCode = s.errCode := rfl
@[simp] theorem endJob_errUnit (s : State) : (s.endJob).errUnit = s.errUnit := rfl
@[simp] theorem endJob_errOffset (s : State) : (s.endJob).errOffset = s.errOffset := rfl
@[simp] theorem endJob_desc (s : State) : (s.endJob).desc = s.desc := rfl
@[simp] theorem endJob_dl (s : State) : (s.endJob).dl = s.dl := rfl
@[simp] theorem endJob_r (s : State) : (s.endJob).r = s.r := rfl
@[simp] theorem endJob_valid (s : State) : (s.endJob).valid = s.valid := rfl
@[simp] theorem endJob_cur (s : State) : (s.endJob).cur = s.cur := rfl
@[simp] theorem endJob_lim (s : State) : (s.endJob).lim = s.lim := rfl
@[simp] theorem endJob_unit (s : State) : (s.endJob).unit = .job := rfl
@[simp] theorem endJob_buf (s : State) : (s.endJob).buf = s.buf := rfl
@[simp] theorem endJob_port (s : State) : (s.endJob).port = s.port := rfl
@[simp] theorem endJob_rdata (s : State) : (s.endJob).rdata = s.rdata := rfl
@[simp] theorem endJob_bdata (s : State) : (s.endJob).bdata = s.bdata := rfl
@[simp] theorem endJob_freeCount (s : State) : (s.endJob).freeCount = s.freeCount := rfl

@[simp] theorem takeError_irqEn (s : State) (e : JobError) : (s.takeError e).irqEn = s.irqEn := rfl
@[simp] theorem takeError_phase (s : State) (e : JobError) : (s.takeError e).phase = .idle := rfl
@[simp] theorem takeError_done (s : State) (e : JobError) : (s.takeError e).done = true := rfl
@[simp] theorem takeError_errCode (s : State) (e : JobError) : (s.takeError e).errCode = e.kind := rfl
@[simp] theorem takeError_errUnit (s : State) (e : JobError) : (s.takeError e).errUnit = e.unit := rfl
@[simp] theorem takeError_errOffset (s : State) (e : JobError) : (s.takeError e).errOffset = BitVec.ofNat 32 e.off := rfl
@[simp] theorem takeError_desc (s : State) (e : JobError) : (s.takeError e).desc = s.desc := rfl
@[simp] theorem takeError_dl (s : State) (e : JobError) : (s.takeError e).dl = s.dl := rfl
@[simp] theorem takeError_r (s : State) (e : JobError) : (s.takeError e).r = s.r := rfl
@[simp] theorem takeError_valid (s : State) (e : JobError) : (s.takeError e).valid = s.valid := rfl
@[simp] theorem takeError_cur (s : State) (e : JobError) : (s.takeError e).cur = s.cur := rfl
@[simp] theorem takeError_lim (s : State) (e : JobError) : (s.takeError e).lim = s.lim := rfl
@[simp] theorem takeError_unit (s : State) (e : JobError) : (s.takeError e).unit = .job := rfl
@[simp] theorem takeError_buf (s : State) (e : JobError) : (s.takeError e).buf = s.buf := rfl
@[simp] theorem takeError_port (s : State) (e : JobError) : (s.takeError e).port = s.port := rfl
@[simp] theorem takeError_rdata (s : State) (e : JobError) : (s.takeError e).rdata = s.rdata := rfl
@[simp] theorem takeError_bdata (s : State) (e : JobError) : (s.takeError e).bdata = s.bdata := rfl
@[simp] theorem takeError_freeCount (s : State) (e : JobError) : (s.takeError e).freeCount = s.freeCount := rfl

@[simp] theorem clearDone_irqEn (s : State) : (s.clearDone).irqEn = s.irqEn := rfl
@[simp] theorem clearDone_phase (s : State) : (s.clearDone).phase = s.phase := rfl
@[simp] theorem clearDone_done (s : State) : (s.clearDone).done = false := rfl
@[simp] theorem clearDone_errCode (s : State) : (s.clearDone).errCode = s.errCode := rfl
@[simp] theorem clearDone_errUnit (s : State) : (s.clearDone).errUnit = s.errUnit := rfl
@[simp] theorem clearDone_errOffset (s : State) : (s.clearDone).errOffset = s.errOffset := rfl
@[simp] theorem clearDone_desc (s : State) : (s.clearDone).desc = s.desc := rfl
@[simp] theorem clearDone_dl (s : State) : (s.clearDone).dl = s.dl := rfl
@[simp] theorem clearDone_r (s : State) : (s.clearDone).r = s.r := rfl
@[simp] theorem clearDone_valid (s : State) : (s.clearDone).valid = s.valid := rfl
@[simp] theorem clearDone_cur (s : State) : (s.clearDone).cur = s.cur := rfl
@[simp] theorem clearDone_lim (s : State) : (s.clearDone).lim = s.lim := rfl
@[simp] theorem clearDone_unit (s : State) : (s.clearDone).unit = s.unit := rfl
@[simp] theorem clearDone_buf (s : State) : (s.clearDone).buf = s.buf := rfl
@[simp] theorem clearDone_port (s : State) : (s.clearDone).port = s.port := rfl
@[simp] theorem clearDone_rdata (s : State) : (s.clearDone).rdata = s.rdata := rfl
@[simp] theorem clearDone_bdata (s : State) : (s.clearDone).bdata = s.bdata := rfl
@[simp] theorem clearDone_freeCount (s : State) : (s.clearDone).freeCount = s.freeCount := rfl

@[simp] theorem start_irqEn (s : State) : (s.start).irqEn = s.irqEn := rfl
@[simp] theorem start_phase (s : State) : (s.start).phase = .busy := rfl
@[simp] theorem start_done (s : State) : (s.start).done = false := rfl
@[simp] theorem start_errCode (s : State) : (s.start).errCode = .none := rfl
@[simp] theorem start_errUnit (s : State) : (s.start).errUnit = .none := rfl
@[simp] theorem start_errOffset (s : State) : (s.start).errOffset = 0 := rfl
@[simp] theorem start_desc (s : State) : (s.start).desc = s.desc := rfl
@[simp] theorem start_dl (s : State) : (s.start).dl = latchOf s.desc := rfl
@[simp] theorem start_r (s : State) : (s.start).r = Record.zero := rfl
@[simp] theorem start_valid (s : State) : (s.start).valid = 0 := rfl
@[simp] theorem start_cur (s : State) : (s.start).cur = 0 := rfl
@[simp] theorem start_lim (s : State) : (s.start).lim = s.lim := rfl
@[simp] theorem start_unit (s : State) : (s.start).unit = .job := rfl
@[simp] theorem start_buf (s : State) : (s.start).buf = s.buf := rfl
@[simp] theorem start_port (s : State) : (s.start).port = s.port := rfl
@[simp] theorem start_rdata (s : State) : (s.start).rdata = s.rdata := rfl
@[simp] theorem start_bdata (s : State) : (s.start).bdata = s.bdata := rfl
@[simp] theorem start_freeCount (s : State) : (s.start).freeCount = s.freeCount := rfl

@[simp] theorem softReset_irqEn (s : State) : (s.softReset).irqEn = false := rfl
@[simp] theorem softReset_phase (s : State) : (s.softReset).phase = .idle := rfl
@[simp] theorem softReset_done (s : State) : (s.softReset).done = false := rfl
@[simp] theorem softReset_errCode (s : State) : (s.softReset).errCode = .none := rfl
@[simp] theorem softReset_errUnit (s : State) : (s.softReset).errUnit = .none := rfl
@[simp] theorem softReset_errOffset (s : State) : (s.softReset).errOffset = 0 := rfl
@[simp] theorem softReset_desc (s : State) : (s.softReset).desc = Descriptor.zero := rfl
@[simp] theorem softReset_dl (s : State) : (s.softReset).dl = Latch.zero := rfl
@[simp] theorem softReset_r (s : State) : (s.softReset).r = Record.zero := rfl
@[simp] theorem softReset_valid (s : State) : (s.softReset).valid = 0 := rfl
@[simp] theorem softReset_cur (s : State) : (s.softReset).cur = 0 := rfl
@[simp] theorem softReset_lim (s : State) : (s.softReset).lim = 0 := rfl
@[simp] theorem softReset_unit (s : State) : (s.softReset).unit = .job := rfl
@[simp] theorem softReset_buf (s : State) : (s.softReset).buf = s.buf := rfl
@[simp] theorem softReset_port (s : State) : (s.softReset).port = s.port := rfl
@[simp] theorem softReset_rdata (s : State) : (s.softReset).rdata = s.rdata := rfl
@[simp] theorem softReset_bdata (s : State) : (s.softReset).bdata = s.bdata := rfl
@[simp] theorem softReset_freeCount (s : State) : (s.softReset).freeCount = s.freeCount := rfl

/-- Clearing DONE at a job end is all its return does (60 R268). -/
theorem clearDone_eq (s : State) : s.clearDone = { s with done := false } := rfl

/-- Taking an error records it and ends the job, nothing else (60 R263). -/
theorem takeError_eq (s : State) (e : JobError) :
    s.takeError e = { s with
      errCode := e.kind, errUnit := e.unit, errOffset := BitVec.ofNat 32 e.off, done := true, phase := .idle, unit := .job } := rfl

@[simp] theorem irq_eq (s : State) : s.irq = (s.done && s.irqEn) := rfl

end Sys2Proof.Laws
end

