-- ==== Sys2Proof/Laws/Dec.lean ====
section
/-! SUPPORT. Laws.Dec: decode steps: how they compose, what each read and write primitive does, and the principle by which
a relation that the primitives respect holds of a whole row. -/

namespace Sys2Proof.Laws

open Sys2Proof Sys2Proof.Machine

variable {α β : Type}

@[simp] theorem dec_bind (m : Dec α) (g : α → Dec β) (s : State) :
    (m >>= g) s = match m s with
      | .ok a t => g a t
      | .error e t => .error e t := by
  show EStateM.bind m g s = _
  unfold EStateM.bind
  cases m s <;> rfl

@[simp] theorem dec_map (h : α → β) (m : Dec α) (s : State) :
    (h <$> m) s = match m s with
      | .ok a t => .ok (h a) t
      | .error e t => .error e t := by
  show EStateM.map h m s = _
  unfold EStateM.map
  cases m s <;> rfl

@[simp] theorem dec_pure (a : α) (s : State) : (pure a : Dec α) s = .ok a s := rfl

@[simp] theorem put'_apply (g : State → State) (s : State) : put' g s = .ok () (g s) := rfl

@[simp] theorem raiseIn_apply (u : ErrUnit) (k : ErrKind) (o : Nat) (s : State) :
    (raiseIn u k o : Dec α) s = .error ⟨k, u, o⟩ s := rfl

@[simp] theorem setCur_apply (o : Nat) (s : State) : setCur o s = .ok () { s with cur := o } := rfl

@[simp] theorem skip_apply (n : Nat) (s : State) : skip n s = .ok () { s with cur := s.cur + n } := rfl

@[simp] theorem enter_apply (u : EngineUnit) (s : State) : enter u s = .ok () { s with unit := u } := rfl

@[simp] theorem finish_apply (s : State) : finish s = .ok () s.endJob := rfl

@[simp] theorem putField_apply (g : Record → Record) (b : VBit) (s : State) :
    putField g b s = .ok () { s with r := g s.r, valid := s.valid ||| b.mask } := rfl

@[simp] theorem dispatch_apply (t : Target) (off len : Nat) (s : State) :
    dispatch t off len s = .ok ()
      { s with
        r := { s.r with dispTarget := t, dispOff := BitVec.ofNat 32 off, dispLen := BitVec.ofNat 32 len }
        valid := s.valid ||| VBit.disp.mask } := rfl

@[simp] theorem settle_ok (s : State) : settle (.ok () s) = s := rfl

@[simp] theorem settle_error (e : JobError) (s : State) : settle (.error e s) = s.takeError e := rfl

theorem runRow_eq (m : Dec Unit) (s : State) : runRow m s = .next (settle (m s)) := rfl

/-- Everything MemRead can do (00_scope R8). -/
theorem memRead_eq (u : ErrUnit) (o n : Nat) (s : State) :
    memRead u o n s =
      if o + n ≤ s.lim then .ok (beNat (Memory.bytes s.buf o n)) s else .error ⟨.truncatedBuffer, u, o⟩ s := rfl

theorem memRead_of_le {u : ErrUnit} {o n : Nat} {s : State} (h : o + n ≤ s.lim) :
    memRead u o n s = .ok (beNat (Memory.bytes s.buf o n)) s := if_pos h

theorem memRead_of_lt {u : ErrUnit} {o n : Nat} {s : State} (h : s.lim < o + n) :
    memRead u o n s = .error ⟨.truncatedBuffer, u, o⟩ s := if_neg (by omega)

/-- Everything MemBytes can do (00_scope R8). -/
theorem memBytes_eq (u : ErrUnit) (o n : Nat) (s : State) :
    memBytes u o n s =
      if o + n ≤ s.lim then .ok (Memory.bytes s.buf o n) s else .error ⟨.truncatedBuffer, u, o⟩ s := rfl

theorem memBytes_of_le {u : ErrUnit} {o n : Nat} {s : State} (h : o + n ≤ s.lim) :
    memBytes u o n s = .ok (Memory.bytes s.buf o n) s := if_pos h

theorem memBytes_of_lt {u : ErrUnit} {o n : Nat} {s : State} (h : s.lim < o + n) :
    memBytes u o n s = .error ⟨.truncatedBuffer, u, o⟩ s := if_neg (by omega)

/-- Everything one named field can do (44 R210): it is read and written whole, or nothing of it is. -/
theorem readField_eq (u : ErrUnit) (o n : Nat) (b : VBit) (g : Nat → Record → Record) (s : State) :
    readField u o n b g s =
      if o + n ≤ s.lim then
        .ok (beNat (Memory.bytes s.buf o n))
          { s with r := g (beNat (Memory.bytes s.buf o n)) s.r, valid := s.valid ||| b.mask, cur := o + n }
      else .error ⟨.truncatedBuffer, u, o⟩ s := by
  unfold readField
  by_cases h : o + n ≤ s.lim
  · simp [memRead_of_le h, h]
  · simp [memRead_of_lt (Nat.lt_of_not_le h), h]

theorem readField_of_le {u : ErrUnit} {o n : Nat} {b : VBit} {g : Nat → Record → Record} {s : State}
    (h : o + n ≤ s.lim) :
    readField u o n b g s =
      .ok (beNat (Memory.bytes s.buf o n))
        { s with r := g (beNat (Memory.bytes s.buf o n)) s.r, valid := s.valid ||| b.mask, cur := o + n } := by
  rw [readField_eq, if_pos h]

theorem readField_of_lt {u : ErrUnit} {o n : Nat} {b : VBit} {g : Nat → Record → Record} {s : State}
    (h : s.lim < o + n) : readField u o n b g s = .error ⟨.truncatedBuffer, u, o⟩ s := by
  rw [readField_eq, if_neg (by omega)]

/-- The state a decode step leaves, whether it goes on or raises. -/
def leftState (x : EStateM.Result JobError State α) : State :=
  match x with
  | .ok _ t => t
  | .error _ t => t

/-- A relation between the state before a decode step and the state it leaves. -/
def Leaves (I : State → State → Prop) (m : Dec α) : Prop := ∀ s, I s (leftState (m s))

theorem leaves_bind {I : State → State → Prop} (htrans : ∀ a b c, I a b → I b c → I a c) {m : Dec α}
    {g : α → Dec β} (hm : Leaves I m) (hg : ∀ a, Leaves I (g a)) : Leaves I (m >>= g) := by
  intro s
  have h1 := hm s
  rw [dec_bind]
  cases h : m s with
  | ok a t =>
    rw [h] at h1
    exact htrans _ _ _ h1 (hg a t)
  | error e t =>
    rw [h] at h1
    exact h1

theorem leaves_pure {I : State → State → Prop} (hrefl : ∀ a, I a a) (a : α) : Leaves I (pure a : Dec α) :=
  fun s => hrefl s

theorem leaves_put' {I : State → State → Prop} {g : State → State} (h : ∀ s, I s (g s)) : Leaves I (put' g) :=
  fun s => h s

theorem leaves_raiseIn {I : State → State → Prop} (hrefl : ∀ a, I a a) (u : ErrUnit) (k : ErrKind) (o : Nat) :
    Leaves I (raiseIn u k o : Dec α) := fun s => hrefl s

theorem leaves_memRead {I : State → State → Prop} (hrefl : ∀ a, I a a) (u : ErrUnit) (o n : Nat) :
    Leaves I (memRead u o n) := by
  intro s
  rw [memRead_eq]
  split <;> exact hrefl s

theorem leaves_memBytes {I : State → State → Prop} (hrefl : ∀ a, I a a) (u : ErrUnit) (o n : Nat) :
    Leaves I (memBytes u o n) := by
  intro s
  rw [memBytes_eq]
  split <;> exact hrefl s

theorem leaves_readField {I : State → State → Prop} (hrefl : ∀ a, I a a) {u : ErrUnit} {o n : Nat} {b : VBit}
    {g : Nat → Record → Record}
    (h : ∀ s v, I s { s with r := g v s.r, valid := s.valid ||| b.mask, cur := o + n }) :
    Leaves I (readField u o n b g) := by
  intro s
  rw [readField_eq]
  split
  · exact h s _
  · exact hrefl s

end Sys2Proof.Laws
end

