-- ==== Sys2Proof/Laws/Memory.lean ====
section
/-! SUPPORT. Laws.Memory: the packet buffer's canonical form is kept, and a read after a write. -/

namespace Sys2Proof.Laws

open Sys2Proof Sys2Proof.Machine

@[simp] theorem lookup_nil (o : Nat) : Memory.lookup [] o = none := rfl

@[simp] theorem lookup_cons (a : Nat) (b : Byte) (m : Memory) (o : Nat) :
    Memory.lookup ((a, b) :: m) o = if a = o then some b else Memory.lookup m o := rfl

theorem bytes_length (m : Memory) (o n : Nat) : (Memory.bytes m o n).length = n := by
  induction n generalizing o with
  | zero => rfl
  | succ n ih => simp [Memory.bytes, ih]

/-- A smaller lower bound holds too. -/
theorem rising_mono {lo lo' : Nat} {m : Memory} (h : lo' ≤ lo) (hm : Memory.rising lo m = true) :
    Memory.rising lo' m = true := by
  cases m with
  | nil => rfl
  | cons c m =>
    obtain ⟨a, b⟩ := c
    simp [Memory.rising] at hm ⊢
    exact ⟨by omega, hm.2⟩

/-- A write at or above the lower bound keeps the addresses rising. -/
theorem rising_write {lo o : Nat} {b : Byte} {m : Memory} (ho : lo ≤ o) (hm : Memory.rising lo m = true) :
    Memory.rising lo (Memory.write m o b) = true := by
  induction m generalizing lo with
  | nil => simp [Memory.write, Memory.rising, ho]
  | cons c m ih =>
    obtain ⟨a, x⟩ := c
    simp [Memory.rising] at hm
    simp only [Memory.write]
    split
    · next h => simp [Memory.rising, ho, hm.2]; omega
    · split
      · next h1 h2 => subst h2; simp [Memory.rising, ho, hm.2]
      · next h1 h2 =>
        simp only [Memory.rising, Bool.and_eq_true, decide_eq_true_eq]
        exact ⟨hm.1, ih (by omega) hm.2⟩

/-- A write keeps every address below a bound that it respects. -/
theorem all_write {p : Nat → Bool} {o : Nat} {b : Byte} {m : Memory} (ho : p o = true)
    (hm : m.all (fun c => p c.1) = true) : (Memory.write m o b).all (fun c => p c.1) = true := by
  induction m with
  | nil => simp [Memory.write, ho]
  | cons c m ih =>
    obtain ⟨a, x⟩ := c
    simp only [List.all_cons, Bool.and_eq_true] at hm
    simp only [Memory.write]
    split
    · simp only [List.all_cons, Bool.and_eq_true]; exact ⟨ho, hm.1, hm.2⟩
    · split
      · simp only [List.all_cons, Bool.and_eq_true]; exact ⟨ho, hm.2⟩
      · simp only [List.all_cons, Bool.and_eq_true]; exact ⟨hm.1, ih hm.2⟩

/-- A write inside a buffer of BUF_CAP bytes keeps the canonical form. -/
theorem write_keeps_wfIn {c : Config} {m : Memory} {o : Nat} {b : Byte} (hm : m.wfIn c = true) (ho : o < c.bufCap) :
    (Memory.write m o b).wfIn c = true := by
  simp only [Memory.wfIn, Bool.and_eq_true] at hm ⊢
  exact ⟨rising_write (Nat.zero_le o) hm.1, all_write (p := fun a => decide (a < c.bufCap)) (decide_eq_true ho) hm.2⟩

/-- A write inside this spec's buffer keeps the canonical form. -/
theorem write_keeps_wf {m : Memory} {o : Nat} {b : Byte} (hm : m.wf = true) (ho : o < Config.aldb.bufCap) :
    (Memory.write m o b).wf = true := write_keeps_wfIn hm ho

/-- Writes inside the buffer keep the canonical form. -/
theorem writeAll_keeps_wf {m : Memory} {o : Nat} {bs : List Byte} (hm : m.wf = true)
    (ho : o + bs.length ≤ Config.aldb.bufCap) : (Memory.writeAll m o bs).wf = true := by
  induction bs generalizing m o with
  | nil => exact hm
  | cons b bs ih =>
    simp only [List.length_cons] at ho
    exact ih (write_keeps_wf hm (by omega)) (by omega)

/-- The buffer after power-on has the canonical form. -/
theorem reset_buf_wf : State.reset.buf.wf = true := rfl

/-- Below the lower bound nothing is listed. -/
theorem lookup_below {lo o : Nat} {m : Memory} (hm : Memory.rising lo m = true) (h : o < lo) :
    Memory.lookup m o = none := by
  induction m generalizing lo with
  | nil => rfl
  | cons c m ih =>
    obtain ⟨a, x⟩ := c
    simp [Memory.rising] at hm
    simp only [Memory.lookup]
    rw [if_neg (by omega)]
    exact ih hm.2 (by omega)

/-- A read after a write to the same offset gives the byte written. -/
theorem read_write_same (m : Memory) (o : Nat) (b : Byte) : Memory.read (Memory.write m o b) o = b := by
  have h : Memory.lookup (Memory.write m o b) o = some b := by
    induction m with
    | nil => simp [Memory.write]
    | cons c m ih =>
      obtain ⟨a, x⟩ := c
      simp only [Memory.write]
      split
      · simp [Memory.lookup]
      · split
        · simp [Memory.lookup]
        · next h1 h2 => rw [lookup_cons, if_neg (by omega)]; exact ih
  simp [Memory.read, h]

/-- A write leaves every other offset alone. -/
theorem read_write_other (m : Memory) {o a : Nat} (b : Byte) (h : a ≠ o) :
    Memory.read (Memory.write m o b) a = Memory.read m a := by
  have hl : Memory.lookup (Memory.write m o b) a = Memory.lookup m a := by
    induction m with
    | nil => simp [Memory.write, Memory.lookup]; omega
    | cons c m ih =>
      obtain ⟨x, y⟩ := c
      simp only [Memory.write]
      split
      · rw [lookup_cons, if_neg (by omega)]
      · split
        · next h1 h2 => subst h2; rw [lookup_cons, lookup_cons, if_neg (by omega), if_neg (by omega)]
        · rw [lookup_cons, lookup_cons, ih]
  simp [Memory.read, hl]

/-- Buffers that read alike over a range give the same bytes there. -/
theorem bytes_congr {m m' : Memory} {o n : Nat}
    (h : ∀ a, o ≤ a → a < o + n → Memory.read m a = Memory.read m' a) : Memory.bytes m o n = Memory.bytes m' o n := by
  induction n generalizing o with
  | zero => rfl
  | succ n ih =>
    simp only [Memory.bytes]
    rw [h o (Nat.le_refl o) (by omega), ih fun a h1 h2 => h a (by omega) (by omega)]

end Sys2Proof.Laws
end

