-- ==== Sys2Proof/Laws/PerInstr.lean ====
section
/-! SUPPORT. Laws.PerInstr: the family EncodedForm: the encoder writes for each row the number of bytes its format has. -/

namespace Sys2Proof.Laws

open Sys2Proof

/-- How many bytes `decode` reads in a format (Decode.lean); a cell header's row takes any, and the encoder writes none. -/
def formatLength : Format → Nat
  | .job => 16
  | .pduDispatch => 11
  | .laneSubtype => 11
  | .lecOpcode => 6
  | .cellHdr => 0
  | .lanDest => 5
  | .tlv => 5
  | .lecBody => 5

/-- The encoded form of a row has its format's length. -/
def EncodedForm.Statement (i : Instr) : Prop := (encode i).length = formatLength i.format

theorem EncodedForm.jobCell : EncodedForm.Statement (.jobCell) := rfl

theorem EncodedForm.jobPduTrunc : EncodedForm.Statement (.jobPduTrunc) := rfl

theorem EncodedForm.jobPduTail : EncodedForm.Statement (.jobPduTail) := rfl

theorem EncodedForm.jobPduCut : EncodedForm.Statement (.jobPduCut) := rfl

theorem EncodedForm.pduSscop (po pl : Word) : EncodedForm.Statement (.pduSscop po pl) := rfl

theorem EncodedForm.pduLlc (po pl : Word) : EncodedForm.Statement (.pduLlc po pl) := rfl

theorem EncodedForm.pduLane (po pl : Word) : EncodedForm.Statement (.pduLane po pl) := rfl

theorem EncodedForm.pduIlmi (po pl : Word) : EncodedForm.Statement (.pduIlmi po pl) := rfl

theorem EncodedForm.pduRaw (tt : BitVec 8) (po pl : Word) : EncodedForm.Statement (.pduRaw tt po pl) := rfl

theorem EncodedForm.laneLeControl (po pl : Word) : EncodedForm.Statement (.laneLeControl po pl) := rfl

theorem EncodedForm.lane8023 (po pl : Word) : EncodedForm.Statement (.lane8023 po pl) := rfl

theorem EncodedForm.lane8025 (po pl : Word) : EncodedForm.Statement (.lane8025 po pl) := rfl

theorem EncodedForm.lane8023Mc (po pl : Word) : EncodedForm.Statement (.lane8023Mc po pl) := rfl

theorem EncodedForm.lane8025Mc (po pl : Word) : EncodedForm.Statement (.lane8025Mc po pl) := rfl

theorem EncodedForm.laneRaw (st : BitVec 8) (po pl : Word) : EncodedForm.Statement (.laneRaw st po pl) := rfl

theorem EncodedForm.configureRequest (f : Word) : EncodedForm.Statement (.configureRequest f) := rfl

theorem EncodedForm.configureResponse (f : Word) : EncodedForm.Statement (.configureResponse f) := rfl

theorem EncodedForm.joinRequest (f : Word) : EncodedForm.Statement (.joinRequest f) := rfl

theorem EncodedForm.joinResponse (f : Word) : EncodedForm.Statement (.joinResponse f) := rfl

theorem EncodedForm.readyQuery (f : Word) : EncodedForm.Statement (.readyQuery f) := rfl

theorem EncodedForm.readyInd (f : Word) : EncodedForm.Statement (.readyInd f) := rfl

theorem EncodedForm.registerRequest (f : Word) : EncodedForm.Statement (.registerRequest f) := rfl

theorem EncodedForm.registerResponse (f : Word) : EncodedForm.Statement (.registerResponse f) := rfl

theorem EncodedForm.unregisterRequest (f : Word) : EncodedForm.Statement (.unregisterRequest f) := rfl

theorem EncodedForm.unregisterResponse (f : Word) : EncodedForm.Statement (.unregisterResponse f) := rfl

theorem EncodedForm.arpRequest (f : Word) : EncodedForm.Statement (.arpRequest f) := rfl

theorem EncodedForm.arpResponse (f : Word) : EncodedForm.Statement (.arpResponse f) := rfl

theorem EncodedForm.flushRequest (f : Word) : EncodedForm.Statement (.flushRequest f) := rfl

theorem EncodedForm.flushResponse (f : Word) : EncodedForm.Statement (.flushResponse f) := rfl

theorem EncodedForm.narpRequest (f : Word) : EncodedForm.Statement (.narpRequest f) := rfl

theorem EncodedForm.topologyRequest (f : Word) : EncodedForm.Statement (.topologyRequest f) := rfl

theorem EncodedForm.verifyRequest (f : Word) : EncodedForm.Statement (.verifyRequest f) := rfl

theorem EncodedForm.verifyResponse (f : Word) : EncodedForm.Statement (.verifyResponse f) := rfl

theorem EncodedForm.lecUnknown (op : Half) (f : Word) : EncodedForm.Statement (.lecUnknown op f) := rfl

theorem EncodedForm.hdrUnpack : EncodedForm.Statement (.hdrUnpack) := rfl

theorem EncodedForm.ldDecode (d : Word) (slot : BitVec 8) : EncodedForm.Statement (.ldDecode d slot) := rfl

theorem EncodedForm.tlvWalk (o : Word) (n : BitVec 8) : EncodedForm.Statement (.tlvWalk o n) := rfl

theorem EncodedForm.cjBody (f : Word) : EncodedForm.Statement (.cjBody f) := rfl

theorem EncodedForm.regBody (f : Word) : EncodedForm.Statement (.regBody f) := rfl

theorem EncodedForm.arpBody (f : Word) : EncodedForm.Statement (.arpBody f) := rfl

theorem EncodedForm.verifyBody (f : Word) : EncodedForm.Statement (.verifyBody f) := rfl

theorem EncodedForm.flushBody (f : Word) : EncodedForm.Statement (.flushBody f) := rfl

end Sys2Proof.Laws
end

