-- ==== Sys2Proof/Laws/Units.lean ====
section
/-! SUPPORT. Laws.Units: for each operation that the rows share, one lemma that says everything it can do. -/

namespace Sys2Proof.Laws

open Sys2Proof Sys2Proof.Machine

/-! Big-endian integers. -/

theorem beNat_cons (b : Byte) (bs : List Byte) : beNat (b :: bs) = b.toNat * 256 ^ bs.length + beNat bs := by
  have h : ∀ (bs : List Byte) (acc : Nat),
      bs.foldl (fun acc b => acc * 256 + b.toNat) acc = acc * 256 ^ bs.length + beNat bs := by
    intro bs
    induction bs with
    | nil => intro acc; simp [beNat]
    | cons x xs ih =>
      intro acc
      have e : beNat (x :: xs) = (0 * 256 + x.toNat) * 256 ^ xs.length + beNat xs := ih _
      rw [List.foldl_cons, ih, e, List.length_cons, pow_succ]
      ring
  have e : beNat (b :: bs) = (0 * 256 + b.toNat) * 256 ^ bs.length + beNat bs := h bs _
  rw [e]
  ring

/-- The integer of `n` bytes is below `256 ^ n`. -/
theorem beNat_lt (bs : List Byte) : beNat bs < 256 ^ bs.length := by
  induction bs with
  | nil => simp [beNat]
  | cons b bs ih =>
    rw [beNat_cons, List.length_cons, pow_succ]
    have := b.isLt
    nlinarith [Nat.mul_le_mul_right (256 ^ bs.length) (Nat.lt_succ_iff.mp (show b.toNat < 255 + 1 by omega))]

theorem beNat_bytes_lt (m : Memory) (o n : Nat) : beNat (Memory.bytes m o n) < 256 ^ n := by
  have h := beNat_lt (Memory.bytes m o n)
  rwa [bytes_length] at h

theorem beNat_bytes_one (m : Memory) (o : Nat) : beNat (Memory.bytes m o 1) = (Memory.read m o).toNat := by
  simp [Memory.bytes, beNat]

theorem beNat_bytes_two (m : Memory) (o : Nat) :
    beNat (Memory.bytes m o 2) = (Memory.read m o).toNat * 256 + (Memory.read m (o + 1)).toNat := by
  simp [Memory.bytes, beNat]

/-! Jobs. -/

/-- The opening of a job: the refusal of 60 R264, or the limit and the cursor set. -/
theorem jobEnter_eq (c : Config) (s : State) :
    jobEnter c s =
      if c.bufCap < s.dl.l.toNat then .error ⟨.badDescriptor, .job, 0⟩ s
      else .ok () { s with lim := s.dl.l.toNat, cur := 0 } := rfl

/-- The header parser: all or nothing. -/
theorem decodeCellHeader_eq (c : Config) (s : State) :
    decodeCellHeader c s =
      if 5 ≤ s.lim then
        .ok () { s with
          r := unpackHeader c (beNat (Memory.bytes s.buf 0 5)) s.r, valid := s.valid ||| 0x1#32, cur := 5 }
      else .error ⟨.truncatedBuffer, .cellHeader, 0⟩ s := by
  by_cases h : 5 ≤ s.lim <;> simp [decodeCellHeader, memRead_eq, h]

/-- UU is the byte at the word's offset, CPI the next (42 R153). -/
theorem trailerUu_bytes (m : Memory) (o : Nat) : trailerUu (beNat (Memory.bytes m o 2)) = Memory.read m o := by
  rw [beNat_bytes_two]
  apply BitVec.eq_of_toNat_eq
  have h0 := (Memory.read m o).isLt
  have h1 := (Memory.read m (o + 1)).isLt
  simp only [trailerUu, BitVec.extractLsb'_toNat, BitVec.toNat_ofNat, Nat.shiftRight_eq_div_pow]
  omega

theorem trailerCpi_bytes (m : Memory) (o : Nat) : trailerCpi (beNat (Memory.bytes m o 2)) = Memory.read m (o + 1) := by
  rw [beNat_bytes_two]
  apply BitVec.eq_of_toNat_eq
  have h0 := (Memory.read m o).isLt
  have h1 := (Memory.read m (o + 1)).isLt
  simp only [trailerCpi, BitVec.extractLsb'_toNat, BitVec.toNat_ofNat, Nat.shiftRight_eq_div_pow]
  omega

/-- The trailer read, in a PDU that holds one: it never fails. -/
theorem tailTrailer_of_le {s : State} {l : Nat} (h8 : 8 ≤ l) (hl : l ≤ s.lim) :
    tailTrailer l s = .ok () { s with
      r := { s.r with
        uu := Memory.read s.buf (l - 8), cpi := Memory.read s.buf (l - 7)
        len := BitVec.ofNat 16 (beNat (Memory.bytes s.buf (l - 6) 2))
        crc := BitVec.ofNat 32 (beNat (Memory.bytes s.buf (l - 4) 4)), trailerSrc := 0 }
      valid := s.valid ||| 0x2#32 } := by
  have h1 : l - 8 + 2 ≤ s.lim := by omega
  have h2 : l - 6 + 2 ≤ s.lim := by omega
  have h3 : l - 4 + 4 ≤ s.lim := by omega
  have e : l - 8 + 1 = l - 7 := by omega
  simp [tailTrailer, memRead_eq, h1, h2, h3, trailerUu_bytes, trailerCpi_bytes, e]

/-! LE Control. -/

/-- The status slot: consumed whole or raised, reported only for a response (43 R172). -/
theorem leStatus_eq (f : Nat) (op : Half) (s : State) :
    leStatus f op s =
      if f + 6 + 2 ≤ s.lim then
        .ok () { s with
          r := if isResponse op then { s.r with status := BitVec.ofNat 16 (beNat (Memory.bytes s.buf (f + 6) 2)) } else s.r
          valid := if isResponse op then s.valid ||| 0x400#32 else s.valid
          cur := f + 8 }
      else .error ⟨.truncatedBuffer, .leControl, f + 6⟩ s := by
  by_cases h : f + 6 + 2 ≤ s.lim
  · by_cases hr : isResponse op = true <;> simp [leStatus, memRead_eq, h, hr]
  · simp [leStatus, memRead_eq, h]

/-- The flag meanings touch the record's two flag bits and their valid bits alone (43 R173). -/
theorem flagBits_eq (c : Config) (op : Half) (s : State) :
    ∃ r v, flagBits c op s = { s with r := r, valid := s.valid ||| v } := by
  unfold flagBits flagRemote flagV2
  split <;> split
  · exact ⟨_, 0x8000#32 ||| 0x4000#32, by simp only [State.setV, ← BitVec.or_assoc]; rfl⟩
  · exact ⟨_, 0x4000#32, rfl⟩
  · exact ⟨_, 0x8000#32, rfl⟩
  · exact ⟨s.r, 0#32, by simp⟩

/-! Bodies. -/

theorem readAtm0_eq (o : Nat) (s : State) :
    readAtm0 o s =
      if o + 20 ≤ s.lim then
        .ok () { s with
          r := { s.r with atm0 := packAtm (Memory.bytes s.buf o 20) }, valid := s.valid ||| 0x80000#32, cur := o + 20 }
      else .error ⟨.truncatedBuffer, .leBody, o⟩ s := by
  by_cases h : o + 20 ≤ s.lim <;> simp [readAtm0, memBytes_eq, h]

theorem readAtm1_eq (o : Nat) (s : State) :
    readAtm1 o s =
      if o + 20 ≤ s.lim then
        .ok () { s with
          r := { s.r with atm1 := packAtm (Memory.bytes s.buf o 20) }, valid := s.valid ||| 0x100000#32, cur := o + 20 }
      else .error ⟨.truncatedBuffer, .leBody, o⟩ s := by
  by_cases h : o + 20 ≤ s.lim <;> simp [readAtm1, memBytes_eq, h]

theorem readNumTlvs_eq (o : Nat) (s : State) :
    readNumTlvs o s =
      if o + 1 ≤ s.lim then
        .ok (Memory.read s.buf o).toNat
          { s with r := { s.r with numTlvs := Memory.read s.buf o }, valid := s.valid ||| 0x800000#32, cur := o + 1 }
      else .error ⟨.truncatedBuffer, .leBody, o⟩ s := by
  simp only [readNumTlvs, readField_eq, beNat_bytes_one, BitVec.ofNat_toNat, BitVec.setWidth_eq, mask_numTlvs]

/-- The name's bytes: none for an empty name, else read whole or raised (44 R212). -/
theorem readName_eq (o : Nat) (s : State) :
    readName o s =
      if s.r.nameLen.toNat = 0 then .ok () s
      else if o + s.r.nameLen.toNat ≤ s.lim then
        .ok () { s with r := { s.r with name := packName (Memory.bytes s.buf o s.r.nameLen.toNat) } }
      else .error ⟨.truncatedBuffer, .leBody, o⟩ s := by
  unfold readName
  by_cases h0 : s.r.nameLen.toNat = 0
  · rw [if_neg (by omega), if_pos h0]
  · rw [if_pos (by omega), if_neg h0]
    by_cases h : o + s.r.nameLen.toNat ≤ s.lim <;> simp [memBytes_eq, h]

/-! LAN destinations and TLVs. -/

/-- What LD_DECODE's slot write does. -/
theorem ldWrite_eq (d i : Nat) (g : LanDest → LanDest) (s : State) :
    ldWrite d i g s =
      .ok () { s with r := s.r.setLd i (g (s.r.ld i)), valid := s.valid ||| (ldBit i).mask, cur := d + 8 } := by
  simp [ldWrite]

/-- A LAN destination: its three forms, and the errors that write nothing (45 R240). -/
theorem lanDest_eq (c : Config) (d i : Nat) (s : State) :
    lanDest c d i s =
      if d + 2 ≤ s.lim then ldForm c d i (beNat (Memory.bytes s.buf d 2)) s
      else .error ⟨.truncatedBuffer, .lanDest, d⟩ s := by
  by_cases h : d + 2 ≤ s.lim <;> simp [lanDest, memRead_eq, h]

theorem tlvFits_eq (t len : Nat) (s : State) :
    tlvFits t len s = if s.lim < t + 5 + len then .error ⟨.malformedLength, .tlv, t + 4⟩ s else .ok () s := rfl

/-- A TLV slot after one is written. -/
theorem tlvSlot_tlvPut (ts : List TlvRec) (k j : Nat) (v : TlvRec) :
    tlvSlot (tlvPut ts k v) j = if j = k then v else tlvSlot ts j := by
  induction ts, k, v using tlvPut.induct generalizing j with
  | case1 v => cases j <;> simp [tlvSlot, tlvPut]
  | case2 k v ih =>
    cases j with
    | zero => simp [tlvSlot, tlvPut]
    | succ j => simpa [tlvSlot, tlvPut] using ih j
  | case3 t ts v => cases j <;> simp [tlvSlot, tlvPut]
  | case4 t ts k v ih =>
    cases j with
    | zero => simp [tlvSlot, tlvPut]
    | succ j => simpa [tlvSlot, tlvPut] using ih j

theorem tlvPut_length (ts : List TlvRec) (k : Nat) (v : TlvRec) :
    (tlvPut ts k v).length = max ts.length (k + 1) := by
  induction ts, k, v using tlvPut.induct with
  | case1 v => simp [tlvPut]
  | case2 k v ih => simp [tlvPut, ih]
  | case3 t ts v => simp [tlvPut]
  | case4 t ts k v ih => simp [tlvPut, ih]

/-! Rows. -/

/-- A row's outcome is a next state, whatever its data: the errors of a job are next states (60 R263). -/
theorem execIn_eq (c : Config) (i : Instr) (s : State) : execIn c i s = .next (settle (rowIn c i s)) := rfl

/-- `exec` runs every row at this spec's parameters (00_scope R5). -/
theorem exec_eq_execIn (i : Instr) (s : State) : exec i s = execIn Config.aldb i s := by cases i <;> rfl

theorem exec_eq (i : Instr) (s : State) : exec i s = .next (settle (rowIn Config.aldb i s)) :=
  (exec_eq_execIn i s).trans (execIn_eq Config.aldb i s)

end Sys2Proof.Laws
end

