-- ==== Sys2Proof/Laws/Step.lean ====
section
/-! SUPPORT. Laws.Step: everything one step can do, case by case, in a block of any parameters; and that `step` is the step
of this spec's. -/

namespace Sys2Proof.Laws

open Sys2Proof Sys2Proof.Machine

/-- `step` is the step of a block built with this spec's parameters (00_scope R5). -/
theorem step_eq_stepIn (s : State) : step s = stepIn Config.aldb s := by
  unfold step stepIn
  rw [show exec = execIn Config.aldb from funext fun i => funext fun s => exec_eq_execIn i s]

variable (c : Config) (run : Instr → State → Host.Outcome State Fault Refusal)

theorem engineTurn_idle {s : State} (h : s.phase = .idle) : engineTurn c run s = .next s := by simp [engineTurn, h]

theorem engineTurn_busy {s : State} (h : s.phase = .busy) : engineTurn c run s = engineStep c run s := by
  simp [engineTurn, h]

theorem engineStep_row {s : State} {i : Instr} (h : fetchIn c s = .row i) : engineStep c run s = run i s := by
  simp [engineStep, h]

theorem engineStep_shortFrame {s : State} {f : Word} (h : fetchIn c s = .shortFrame f) :
    engineStep c run s = runRow (leShort c f) s := by simp [engineStep, h]

theorem engineStep_noBody {s : State} (h : fetchIn c s = .noBody) : engineStep c run s = .next s.endJob := by
  simp [engineStep, h, runRow_eq]

theorem stepOf_nil {s : State} (h : s.port = []) : stepOf c run s = engineTurn c run s := by simp [stepOf, h]

theorem stepOf_tick {s : State} {rest : List PortOp} (h : s.port = .tick :: rest) :
    stepOf c run s = engineTurn c run { s with port := rest } := by simp [stepOf, h]

theorem stepOf_wait {s : State} {rest : List PortOp} (h : s.port = .wait :: rest) :
    stepOf c run s = if s.done then .next { s with port := rest } else engineTurn c run s := by simp [stepOf, h]

/-- A host transaction that is neither a tick nor a WAIT is the whole step. -/
theorem stepOf_access {s : State} {op : PortOp} {rest : List PortOp} (h : s.port = op :: rest) (ht : op ≠ .tick)
    (hw : op ≠ .wait) : stepOf c run s = hostAccess c op { s with port := rest } := by
  cases op <;> simp_all [stepOf]

/-! Register accesses (20_memory R61, R62). -/

theorem regAccess_word {a : Nat} (h4 : a % 4 = 0) (ha : a < 0xE00) (served : Host.Outcome State Fault Refusal) :
    regAccess a 4 served = served := by
  simp [regAccess, h4, Nat.not_le.mpr ha]

theorem regAccess_shape {a size : Nat} (h : size ≠ 4 ∨ a % 4 ≠ 0) (served : Host.Outcome State Fault Refusal) :
    regAccess a size served = .refused (.registerAccessShape a size) := if_pos h

theorem regAccess_outside {a : Nat} (h4 : a % 4 = 0) (ha : 0xE00 ≤ a) (served : Host.Outcome State Fault Refusal) :
    regAccess a 4 served = .fault (.registerAddressOutside a) := by
  simp [regAccess, h4, ha]

end Sys2Proof.Laws
end

