-- ==== Sys2Proof/Tests/Slice0.lean ====
section
/-! SUPPORT. Tests.Slice0: ill-formed terms refused, words written out from the spec's encodings, one step of each
instruction on the spec's own examples, and for each statement with hypotheses a state that meets them. -/

namespace Sys2Proof.Tests

open Sys2Proof Sys2Proof.Machine Sys2Proof.Safety

/-! WellFormed refuses. -/

theorem test_wf_slice_past_buffer : (Instr.pduLlc 0 65569).wf = false := by decide
theorem test_wf_slice_whole_buffer : (Instr.pduLlc 0 65568).wf = true := by decide
theorem test_wf_offset_past_buffer : (Instr.readyQuery 65569).wf = false := by decide
theorem test_wf_run_past_longest_skip : (Instr.tlvWalk 65622 0).wf = false := by decide
theorem test_wf_raw_type_llc : (Instr.pduRaw 1 0 0).wf = false := by decide
theorem test_wf_raw_type_ilmi : (Instr.pduRaw 4 0 0).wf = false := by decide
theorem test_wf_raw_subtype_le_control : (Instr.laneRaw 1 0 0).wf = false := by decide
theorem test_wf_unknown_opcode_known : (Instr.lecUnknown 0x0003 0).wf = false := by decide
theorem test_wf_slot_two : (Instr.ldDecode 0 2).wf = false := by decide

/-! Decoding: bits written out from 30_encoding. -/

theorem test_decode_job_cell : decode .job [0x01, 0x00, 0x00, 0x00, 0x00, 0x00, 0x00, 0x00, 0x35, 0x00, 0x00, 0x00, 0x35, 0x00, 0x00, 0x00] = .ok (.jobCell) := by decide
theorem test_decode_job_cell_unknown_aal : decode .job [0xC8, 0x00, 0x00, 0x00, 0x01, 0x00, 0x00, 0x00, 0x35, 0x00, 0x00, 0x00, 0x35, 0x00, 0x00, 0x00] = .ok (.jobCell) := by decide
theorem test_decode_job_pdu_trunc : decode .job [0x06, 0x00, 0x00, 0x00, 0x01, 0x00, 0x00, 0x00, 0x64, 0x00, 0x00, 0x00, 0x00, 0x00, 0x00, 0x00] = .ok (.jobPduTrunc) := by decide
theorem test_decode_job_pdu_tail : decode .job [0x04, 0x00, 0x00, 0x00, 0x00, 0x00, 0x00, 0x00, 0x30, 0x00, 0x00, 0x00, 0x30, 0x00, 0x00, 0x00] = .ok (.jobPduTail) := by decide
theorem test_decode_job_pdu_cut : decode .job [0x04, 0x00, 0x00, 0x00, 0x00, 0x00, 0x00, 0x00, 0x3C, 0x00, 0x00, 0x00, 0x60, 0x00, 0x00, 0x00] = .ok (.jobPduCut) := by decide
theorem test_decode_pdu_sscop_any_type : decode .pduDispatch [0x06, 0x03, 0x00, 0x00, 0x00, 0x00, 0x00, 0x40, 0x00, 0x00, 0x00] = .ok (.pduSscop 0 64) := by decide
theorem test_decode_pdu_llc : decode .pduDispatch [0x04, 0x01, 0x00, 0x00, 0x00, 0x00, 0x00, 0x40, 0x00, 0x00, 0x00] = .ok (.pduLlc 0 64) := by decide
theorem test_decode_pdu_lane : decode .pduDispatch [0x04, 0x03, 0x02, 0x00, 0x00, 0x00, 0x00, 0x40, 0x00, 0x00, 0x00] = .ok (.pduLane 0 64) := by decide
theorem test_decode_pdu_ilmi : decode .pduDispatch [0x04, 0x04, 0x00, 0x00, 0x00, 0x00, 0x00, 0x40, 0x00, 0x00, 0x00] = .ok (.pduIlmi 0 64) := by decide
theorem test_decode_pdu_raw_vc_mux : decode .pduDispatch [0x04, 0x02, 0x00, 0x00, 0x00, 0x00, 0x00, 0x40, 0x00, 0x00, 0x00] = .ok (.pduRaw 2 0 64) := by decide
theorem test_decode_lane_le_control : decode .laneSubtype [0x04, 0x03, 0x01, 0x00, 0x00, 0x00, 0x00, 0x40, 0x00, 0x00, 0x00] = .ok (.laneLeControl 0 64) := by decide
theorem test_decode_lane_8023 : decode .laneSubtype [0x04, 0x03, 0x02, 0x00, 0x00, 0x00, 0x00, 0x40, 0x00, 0x00, 0x00] = .ok (.lane8023 0 64) := by decide
theorem test_decode_lane_8025 : decode .laneSubtype [0x04, 0x03, 0x03, 0x00, 0x00, 0x00, 0x00, 0x40, 0x00, 0x00, 0x00] = .ok (.lane8025 0 64) := by decide
theorem test_decode_lane_8023_mc : decode .laneSubtype [0x04, 0x03, 0x04, 0x00, 0x00, 0x00, 0x00, 0x40, 0x00, 0x00, 0x00] = .ok (.lane8023Mc 0 64) := by decide
theorem test_decode_lane_8025_mc : decode .laneSubtype [0x04, 0x03, 0x05, 0x00, 0x00, 0x00, 0x00, 0x40, 0x00, 0x00, 0x00] = .ok (.lane8025Mc 0 64) := by decide
theorem test_decode_lane_raw : decode .laneSubtype [0x04, 0x03, 0x00, 0x00, 0x00, 0x00, 0x00, 0x40, 0x00, 0x00, 0x00] = .ok (.laneRaw 0 0 64) := by decide
theorem test_decode_configure_request : decode .lecOpcode [0x00, 0x01, 0x00, 0x00, 0x00, 0x00] = .ok (.configureRequest 0) := by decide
theorem test_decode_configure_response : decode .lecOpcode [0x01, 0x01, 0x00, 0x00, 0x00, 0x00] = .ok (.configureResponse 0) := by decide
theorem test_decode_join_request : decode .lecOpcode [0x00, 0x02, 0x00, 0x00, 0x00, 0x00] = .ok (.joinRequest 0) := by decide
theorem test_decode_join_response : decode .lecOpcode [0x01, 0x02, 0x00, 0x00, 0x00, 0x00] = .ok (.joinResponse 0) := by decide
theorem test_decode_ready_query : decode .lecOpcode [0x00, 0x03, 0x00, 0x00, 0x00, 0x00] = .ok (.readyQuery 0) := by decide
theorem test_decode_ready_ind : decode .lecOpcode [0x01, 0x03, 0x00, 0x00, 0x00, 0x00] = .ok (.readyInd 0) := by decide
theorem test_decode_register_request : decode .lecOpcode [0x00, 0x04, 0x00, 0x00, 0x00, 0x00] = .ok (.registerRequest 0) := by decide
theorem test_decode_register_response : decode .lecOpcode [0x01, 0x04, 0x00, 0x00, 0x00, 0x00] = .ok (.registerResponse 0) := by decide
theorem test_decode_unregister_request : decode .lecOpcode [0x00, 0x05, 0x00, 0x00, 0x00, 0x00] = .ok (.unregisterRequest 0) := by decide
theorem test_decode_unregister_response : decode .lecOpcode [0x01, 0x05, 0x00, 0x00, 0x00, 0x00] = .ok (.unregisterResponse 0) := by decide
theorem test_decode_arp_request : decode .lecOpcode [0x00, 0x06, 0x00, 0x00, 0x00, 0x00] = .ok (.arpRequest 0) := by decide
theorem test_decode_arp_response : decode .lecOpcode [0x01, 0x06, 0x00, 0x00, 0x00, 0x00] = .ok (.arpResponse 0) := by decide
theorem test_decode_flush_request : decode .lecOpcode [0x00, 0x07, 0x00, 0x00, 0x00, 0x00] = .ok (.flushRequest 0) := by decide
theorem test_decode_flush_response : decode .lecOpcode [0x01, 0x07, 0x00, 0x00, 0x00, 0x00] = .ok (.flushResponse 0) := by decide
theorem test_decode_narp_request : decode .lecOpcode [0x00, 0x08, 0x00, 0x00, 0x00, 0x00] = .ok (.narpRequest 0) := by decide
theorem test_decode_topology_request : decode .lecOpcode [0x00, 0x09, 0x00, 0x00, 0x00, 0x00] = .ok (.topologyRequest 0) := by decide
theorem test_decode_verify_request : decode .lecOpcode [0x00, 0x0A, 0x00, 0x00, 0x00, 0x00] = .ok (.verifyRequest 0) := by decide
theorem test_decode_verify_response : decode .lecOpcode [0x01, 0x0A, 0x00, 0x00, 0x00, 0x00] = .ok (.verifyResponse 0) := by decide
theorem test_decode_unknown_opcode : decode .lecOpcode [0xFF, 0xFF, 0x00, 0x00, 0x00, 0x00] = .ok (.lecUnknown 0xFFFF 0) := by decide
theorem test_decode_hdr_unpack : decode .cellHdr [0x12, 0x34, 0x56, 0x78, 0x9A] = .ok (.hdrUnpack) := by decide
theorem test_decode_ld_decode : decode .lanDest [0x18, 0x00, 0x00, 0x00, 0x01] = .ok (.ldDecode 24 1) := by decide
theorem test_decode_tlv_walk : decode .tlv [0x6C, 0x00, 0x00, 0x00, 0x02] = .ok (.tlvWalk 108 2) := by decide
theorem test_decode_cj_body : decode .lecBody [0x01, 0x00, 0x00, 0x00, 0x00] = .ok (.cjBody 0) := by decide
theorem test_decode_reg_body : decode .lecBody [0x02, 0x00, 0x00, 0x00, 0x00] = .ok (.regBody 0) := by decide
theorem test_decode_arp_body : decode .lecBody [0x03, 0x00, 0x00, 0x00, 0x00] = .ok (.arpBody 0) := by decide
theorem test_decode_verify_body : decode .lecBody [0x04, 0x00, 0x00, 0x00, 0x00] = .ok (.verifyBody 0) := by decide
theorem test_decode_flush_body : decode .lecBody [0x05, 0x00, 0x00, 0x00, 0x00] = .ok (.flushBody 0) := by decide
theorem test_decode_topology_has_no_body_row : decode .lecBody [6, 0, 0, 0, 0] = .error (.noBodyRow 6) := by decide
theorem test_decode_cell_aal_has_no_pdu_row :
    decode .pduDispatch [1, 0, 0, 0, 0, 0, 0, 0, 0, 0, 0] = .error (.noRow .pduDispatch 1) := by decide
theorem test_table_word_register_response : decodeTableWord 16 0x0104 = some (.registerResponse 0) := by decide
theorem test_table_word_lane_8025 : decodeTableWord 24 0x030304 = some (.lane8025 0 0) := by decide
theorem test_table_word_pdu_ilmi : decodeTableWord 16 0x0404 = some (.pduIlmi 0 0) := by decide

/-! One step. -/

/-- A BUSY engine over some captured bytes, its limit at their end. -/
def holding (bs : List Byte) (n : Nat) : State :=
  { State.reset with
    phase := .busy, buf := Memory.writeAll [] 0 bs, lim := n, dl := { Latch.zero with l := BitVec.ofNat 32 n } }

/-- The first 16 bytes of an LE Control frame: marker FF00, protocol and version 1. -/
def leHeader (op status flags : Half) : List Byte :=
  [0xFF, 0x00, 0x01, 0x01, op.extractLsb' 8 8, op.extractLsb' 0 8, status.extractLsb' 8 8, status.extractLsb' 0 8,
   0, 0, 0, 7, 0, 42, flags.extractLsb' 8 8, flags.extractLsb' 0 8]

/-- An outcome is a next state that a test holds of. -/
def after (o : Host.Outcome State Fault Refusal) (p : State → Bool) : Bool :=
  match o with
  | .next t => p t
  | _ => false

/-- 41 R140, Example. -/
theorem test_hdr_unpack :
    after (exec .hdrUnpack (holding [0x12, 0x34, 0x56, 0x78, 0x9A] 5))
      (fun t => t.r.vpi == 0x103 && t.r.vci == 0x4567 && t.r.gfc == 2 && t.r.pt == 4 && t.r.clp == 0 && t.r.hec == 0x9A) = true := by decide

/-- A block built with the other GFC_NIBBLE and the other CJ_LAYOUT (95, the alternative configurations of CH7 and E9). -/
def alternative : Config := { Config.aldb with gfcNibble := .high, cjLayout := .standard }

/-- 41 R140, Corner cases; 95 CH7. -/
theorem test_hdr_unpack_largest_vpi :
    after (exec .hdrUnpack (holding [0xFF, 0xF0, 0, 0, 0] 5))
      (fun t => t.r.vpi == 0xF0F && t.valid == 1) = true ∧
    after (execIn alternative .hdrUnpack (holding [0x12, 0x34, 0x56, 0x78, 0x9A] 5))
      (fun t => t.r.vpi == 0x103 && t.r.gfc == 1) = true := by decide

/-- 40 R122, Example. -/
theorem test_job_cell :
    after (exec .jobCell { holding [0x12, 0x34, 0x56, 0x78, 0x9A] 53 with dl := { Latch.zero with l := 53, aal := 1 } })
      (fun t => t.r.dispTarget == .aalCellBody && t.r.dispOff == 5 && t.r.dispLen == 48 && t.done && t.valid == 0x11) = true := by decide

/-- 40 R122, Exceptions. -/
theorem test_job_cell_short :
    after (exec .jobCell (holding [] 4))
      (fun t => t.errCode == .truncatedBuffer && t.errUnit == .cellHeader && t.valid == 0 && t.phase == .idle) = true := by decide

/-- 42 R151, Example. -/
theorem test_job_pdu_trunc :
    after (exec .jobPduTrunc { holding [] 100 with dl := { Latch.zero with l := 100, cellCount := 3, metaLen := 100, metaCrc := 0xDEADBEEF } })
      (fun t => t.r.a5Cells == 3 && t.r.len == 100 && t.r.crc == 0xDEADBEEF && t.r.trailerSrc == 1 && t.unit == .pdu 0 100) = true := by decide

/-- 42 R151, Corner cases. -/
theorem test_job_pdu_trunc_no_cells :
    after (exec .jobPduTrunc { holding [] 100 with dl := { Latch.zero with l := 100, metaLen := 9 } })
      (fun t => t.valid == 0 && t.r.len == 0 && t.unit == .pdu 0 100) = true := by decide

/-- 42 R152, Example. -/
theorem test_job_pdu_tail :
    after (exec .jobPduTail { holding (List.replicate 40 0 ++ [0x00, 0x00, 0x00, 0x1C, 0x12, 0x34, 0x56, 0x78]) 48 with dl := { Latch.zero with l := 48, rl := 48 } })
      (fun t => t.r.len == 28 && t.r.crc == 0x12345678 && t.r.a5Cells == 1 && t.r.padOff == 28 && t.r.padLen == 12 && t.unit == .pdu 0 28) = true := by decide

/-- 42 R154: 41 passes L-8 = 40. -/
theorem test_job_pdu_tail_malformed :
    after (exec .jobPduTail (holding (List.replicate 40 0 ++ [0, 0, 0, 41, 0, 0, 0, 0]) 48))
      (fun t => t.errCode == .malformedLength && t.errUnit == .aal5 && t.errOffset == 42 && t.valid == 0x6) = true := by decide

/-- 42 R156, Example. -/
theorem test_job_pdu_cut :
    after (exec .jobPduCut { holding [] 60 with dl := { Latch.zero with l := 60, rl := 96 } })
      (fun t => t.valid == 0 && t.unit == .pdu 0 60) = true := by decide

/-- 40 R126, Example. -/
theorem test_pdu_sscop :
    after (exec (.pduSscop 0 9) (holding [] 9))
      (fun t => t.r.dispTarget == .sscop && t.done) = true := by decide

/-- 40 R127, Example. -/
theorem test_pdu_llc :
    after (exec (.pduLlc 0 4) (holding [] 4))
      (fun t => t.r.dispTarget == .llc && t.r.dispOff == 0 && t.r.dispLen == 4 && t.valid == 0x10) = true := by decide

/-- 40 R130. -/
theorem test_pdu_lane :
    after (exec (.pduLane 0 28) (holding [] 48))
      (fun t => t.lim == 28 && t.unit == .lane 0 28 && t.phase == .busy) = true := by decide

/-- 40 R128, Example. -/
theorem test_pdu_ilmi :
    after (exec (.pduIlmi 0 9) (holding [] 9))
      (fun t => t.r.dispTarget == .ilmi && t.done) = true := by decide

/-- 40 R129, Example. -/
theorem test_pdu_raw :
    after (exec (.pduRaw 2 0 9) (holding [] 9))
      (fun t => t.r.dispTarget == .raw && t.done) = true := by decide

/-- 40 R134. -/
theorem test_lane_le_control :
    after (exec (.laneLeControl 0 108) (holding [] 108))
      (fun t => t.r.dispTarget == .leControl && t.r.dispLen == 108 && t.unit == .lec 0) = true := by decide

/-- 40 R131, Example. -/
theorem test_lane_8023 :
    after (exec (.lane8023 0 64) (holding [0x00, 0x05] 64))
      (fun t => t.r.laneClient == 5 && t.r.dispTarget == .ethernet && t.r.dispOff == 2 && t.r.dispLen == 62) = true := by decide

/-- 40 R131, Exceptions. -/
theorem test_lane_8023_short :
    after (exec (.lane8023 0 1) (holding [0x00] 1))
      (fun t => t.errUnit == .laneDispatch && t.errOffset == 0 && t.valid == 0) = true := by decide

/-- 40 R132, Example. -/
theorem test_lane_8025 :
    after (exec (.lane8025 0 40) (holding [0x00, 0x05] 40))
      (fun t => t.r.dispTarget == .tokenRing && t.r.dispOff == 2 && t.r.dispLen == 38) = true := by decide

/-- 40 R131, an empty Ethernet slice. -/
theorem test_lane_8023_mc :
    after (exec (.lane8023Mc 0 2) (holding [0x00, 0x05] 2))
      (fun t => t.r.dispTarget == .ethernet && t.r.dispLen == 0 && t.valid == 0x30) = true := by decide

/-- 40 R132. -/
theorem test_lane_8025_mc :
    after (exec (.lane8025Mc 0 3) (holding [0x01, 0x02] 3))
      (fun t => t.r.dispTarget == .tokenRing && t.r.laneClient == 0x102 && t.r.dispLen == 1) = true := by decide

/-- 40 R133, Example. -/
theorem test_lane_raw :
    after (exec (.laneRaw 0 0 9) (holding [] 9))
      (fun t => t.r.dispTarget == .raw && t.r.dispOff == 0 && t.r.dispLen == 9) = true := by decide

/-- 43 R174, Example. -/
theorem test_ready_query :
    after (exec (.readyQuery 0) (holding [0xFF, 0x00, 0x01, 0x01, 0x00, 0x03] 6))
      (fun t => t.r.marker == 0xFF00 && t.r.protocol == 1 && t.r.version == 1 && t.r.opcode == 3 && t.r.opclass == 4 && t.valid == 0x3C0 && t.done) = true := by decide

/-- 43 R175, Example: the status slot is not read. -/
theorem test_ready_ind :
    after (exec (.readyInd 0) (holding [0xFF, 0x00, 0x01, 0x01, 0x01, 0x03, 0x00, 0x07] 8))
      (fun t => t.r.opcode == 0x103 && t.r.opclass == 5 && t.r.status == 0 && t.valid == 0x3C0 && t.cur == 6) = true := by decide

/-- 43 R176, Example. -/
theorem test_configure_request :
    after (exec (.configureRequest 0) (holding (leHeader 0x0001 0 2) 108))
      (fun t => t.r.v2Capable == 1 && t.r.body == .configureJoin && t.valid == 0x1BBC0 && t.unit == .body 0) = true := by decide

/-- 43 R177, Example. -/
theorem test_configure_response :
    after (exec (.configureResponse 0) (holding (leHeader 0x0101 1 0) 108))
      (fun t => t.r.status == 1 && t.isValid .lecStatus && t.r.opclass == 1) = true := by decide

/-- 43 R178, Example. -/
theorem test_join_request :
    after (exec (.joinRequest 0) (holding (leHeader 0x0002 0 0) 108))
      (fun t => t.r.v2Capable == 0 && t.isValid .lecFlagV2 && !t.isValid .lecStatus) = true := by decide

/-- 43 R179, Example. -/
theorem test_join_response :
    after (exec (.joinResponse 0) (holding (leHeader 0x0102 0 0) 108))
      (fun t => t.r.reqLecId == 42 && t.r.opclass == 3 && t.r.transId == 7) = true := by decide

/-- 43 R180. -/
theorem test_register_request :
    after (exec (.registerRequest 0) (holding (leHeader 0x0004 0 3) 108))
      (fun t => t.r.body == .registration && t.valid == 0x13BC0 && t.r.opclass == 6) = true := by decide

/-- 43 R181, Example. -/
theorem test_register_response :
    after (exec (.registerResponse 0) (holding (leHeader 0x0104 0 0) 108))
      (fun t => t.r.status == 0 && t.isValid .lecStatus && t.r.opclass == 7) = true := by decide

/-- 43 R182, Example. -/
theorem test_unregister_request :
    after (exec (.unregisterRequest 0) (holding (leHeader 0x0005 0 0) 108))
      (fun t => t.r.body == .registration && t.r.opclass == 8) = true := by decide

/-- 43 R183, Example. -/
theorem test_unregister_response :
    after (exec (.unregisterResponse 0) (holding (leHeader 0x0105 5 0) 108))
      (fun t => t.r.body == .registration && t.r.opclass == 9 && t.r.status == 5) = true := by decide

/-- 43 R184, Example. -/
theorem test_arp_request :
    after (exec (.arpRequest 0) (holding (leHeader 0x0006 0 1) 108))
      (fun t => t.r.remote == 1 && t.r.v2Capable == 0 && t.valid == 0x17BC0 && t.r.body == .arp) = true := by decide

/-- 43 R185, Example. -/
theorem test_arp_response :
    after (exec (.arpResponse 0) (holding (leHeader 0x0106 0 1) 108))
      (fun t => t.r.remote == 1 && t.r.status == 0 && t.valid == 0x17FC0) = true := by decide

/-- 43 R186, Example. -/
theorem test_flush_request :
    after (exec (.flushRequest 0) (holding (leHeader 0x0007 0 0) 108))
      (fun t => t.r.body == .flush && t.r.opclass == 12) = true := by decide

/-- 43 R187, Example. -/
theorem test_flush_response :
    after (exec (.flushResponse 0) (holding (leHeader 0x0107 0 0) 108))
      (fun t => t.r.body == .flush && t.r.opclass == 13 && t.isValid .lecStatus) = true := by decide

/-- 43 R188, Example. -/
theorem test_narp_request :
    after (exec (.narpRequest 0) (holding (leHeader 0x0008 0 1) 108))
      (fun t => t.r.flags == 1 && t.r.remote == 0 && !t.isValid .lecFlagRemote && t.r.body == .arp) = true := by decide

/-- 43 R189. -/
theorem test_topology_request :
    after (exec (.topologyRequest 0) (holding (leHeader 0x0009 0 0) 108))
      (fun t => t.r.body == .topology && t.done && t.cur == 16) = true := by decide

/-- 43 R190. -/
theorem test_verify_request :
    after (exec (.verifyRequest 0) (holding (leHeader 0x000A 0 0) 108))
      (fun t => t.r.body == .verify && t.r.opclass == 16 && !t.isValid .lecStatus) = true := by decide

/-- 43 R191, Example. -/
theorem test_verify_response :
    after (exec (.verifyResponse 0) (holding (leHeader 0x010A 9 0) 108))
      (fun t => t.r.body == .verify && t.r.opclass == 17 && t.r.status == 9) = true := by decide

/-- 43 R192, Example: 0x0200 has no status. -/
theorem test_lec_unknown_0200 :
    after (exec (.lecUnknown 0x0200 0) (holding (leHeader 0x0200 7 0) 108))
      (fun t => t.r.opclass == 31 && t.r.body == .none && !t.isValid .lecStatus && t.done) = true := by decide

/-- 43 R192, Example: 0x0110 has one. -/
theorem test_lec_unknown_0110 :
    after (exec (.lecUnknown 0x0110 0) (holding (leHeader 0x0110 7 0) 108))
      (fun t => t.r.opclass == 31 && t.r.status == 7 && t.isValid .lecBody) = true := by decide

/-- 45 R240, Example. -/
theorem test_ld_decode :
    after (exec (.ldDecode 0 0) (holding [0x00, 0x02, 0, 0, 0, 0, 0x12, 0x34] 8))
      (fun t => t.r.ld0.kind == .routeDescriptor && t.r.ld0.lanId == 0x123 && t.r.ld0.bridge == 4 && t.cur == 8) = true := by decide

/-- 45 R240, Exceptions: the slot is all or nothing. -/
theorem test_ld_decode_mac_short :
    after (exec (.ldDecode 0 1) (holding [0x00, 0x01, 0, 0, 0, 0, 0] 7))
      (fun t => t.errUnit == .lanDest && t.errOffset == 2 && t.r.ld1 == LanDest.zero && t.valid == 0) = true := by decide

/-- 45 R245, Example, its run at offset 0. -/
theorem test_tlv_walk :
    after (exec (.tlvWalk 0 2) (holding [0x00, 0xA0, 0x3E, 0x2A, 0x01, 0x05, 0x00, 0xA0, 0x3E, 0x2B, 0x00] 11))
      (fun t => t.r.tlvs == [⟨0x00A03E2A, 1, 5⟩, ⟨0x00A03E2B, 0, 11⟩] && t.r.tlvsDone == 2 && t.cur == 11 && t.done) = true := by decide

/-- 45 R246: the value passes the limit by one byte. -/
theorem test_tlv_walk_malformed :
    after (exec (.tlvWalk 0 1) (holding [0x00, 0xA0, 0x3E, 0x2A, 0x01] 5))
      (fun t => t.errCode == .malformedLength && t.errOffset == 4 && t.r.tlvs == [] && t.valid == 0x4000000) = true := by decide

/-- 44 R211, Example: NAME_SIZE 40 is clamped to 32. -/
theorem test_cj_body :
    after (exec (.cjBody 0) (holding (List.replicate 75 0 ++ [40, 0x45] ++ List.replicate 31 0) 108))
      (fun t => t.r.nameSize == 40 && t.r.nameLen == 32 && t.r.name == 0x45#256 <<< 248 && t.unit == .tlv 108 0 && t.valid == 0x3FE0000) = true := by decide

/-- 30 R91; 95 E9: the STANDARD layout's scalars come before ATM1. -/
theorem test_cj_body_standard :
    after (execIn alternative (.cjBody 0)
        (holding (List.replicate 52 0 ++ [1, 2, 0, 4, 0x47] ++ List.replicate 19 0 ++ [0x41, 0x42, 0x43, 0x44]) 108))
      (fun t => t.r.lanType == 1 && t.r.maxFrame == 2 && t.r.nameLen == 4 && packedWord t.r.atm1 0 == 0x47000000 &&
        packedWord t.r.name 0 == 0x41424344) = true := by decide

/-- 44 R213, Example, in a frame of 55 bytes. -/
theorem test_reg_body :
    after (exec (.regBody 0) (holding (List.replicate 17 0 ++ [0x01, 0x00, 0x11, 0x22, 0x33, 0x44, 0x55] ++ List.replicate 31 0) 55))
      (fun t => t.r.ld0.kind == .macAddress && t.r.ld0.mac == 0x001122334455 && t.r.ld1.kind == .notPresent && t.unit == .tlv 108 0) = true := by decide

/-- 44 R215, Example. -/
theorem test_arp_body :
    after (exec (.arpBody 0) (holding (List.replicate 56 0 ++ [0x39] ++ List.replicate 18 0 ++ [0x01]) 76))
      (fun t => packedWord t.r.atm1 0 == 0x39000000 && packedWord t.r.atm1 4 == 1 && t.valid == 0x9E0000) = true := by decide

/-- 44 R217. -/
theorem test_verify_body :
    after (exec (.verifyBody 0) (holding (List.replicate 54 0 ++ [2] ++ List.replicate 21 0) 76))
      (fun t => t.r.numTlvs == 2 && t.unit == .tlv 108 2 && t.valid == 0x900000) = true := by decide

/-- 44 R217, Corner cases: at F+54, not at F+16. -/
theorem test_verify_body_short :
    after (exec (.verifyBody 0) (holding [] 16))
      (fun t => t.errUnit == .leBody && t.errOffset == 54 && t.errCode == .truncatedBuffer) = true := by decide

/-- 44 R219, Example. -/
theorem test_flush_body :
    after (exec (.flushBody 0) (holding (List.replicate 76 0) 76))
      (fun t => t.done && t.errCode == .none && t.cur == 108 && t.valid == 0x1E0000) = true := by decide

/-- The table's word for LANE_8023_MC placed after reset runs as the next step. -/
theorem test_placed_lane_8023_mc :
    after (step (State.reset.withFetchWord 24 0x040304)) (fun t => t.errUnit == .laneDispatch && t.done) = true := by
  decide

/-- The table's word for VERIFY_REQUEST placed after reset runs as the next step. -/
theorem test_placed_verify_request :
    after (step (State.reset.withFetchWord 16 0x000A)) (fun t => t.r.opclass == 16 && t.unit == .body 0) = true := by
  decide

/-! For each statement with hypotheses, a state and operands that meet them all together, clause by clause. -/

/-- A latch of a job's class and length. -/
def latched (aal tt st : BitVec 8) (l rl : Word) : State :=
  { State.reset with
    phase := .busy, dl := { Latch.zero with aal := aal, trafType := tt, trafSubtype := st, l := l, rl := rl } }

/-- The engine after power-on, with host transactions to come. -/
def hosted (p : List PortOp) : State := { State.reset with port := p }

/-- The engine just started, with host transactions to come. -/
def startedWith (p : List PortOp) : State := { State.reset.start with port := p }

theorem witness_DecodeEncodeRoundTrip : (Instr.laneRaw 6 0 65568).wf = true := by decide

theorem witness_DecodedIsWellFormed : decode .lanDest [24, 0, 0, 0, 1] = .ok (.ldDecode 24 1) := by decide

theorem witness_JobKindSelection : (latched 4 0 0 8 8).unit = .job := by decide

theorem witness_OpcodeClassification : ∀ e ∈ opcodeRows, (0xFFFF : Half) ≠ e.2.1 := by decide

theorem witness_OpcodeSelection :
    let s := { holding (leHeader 0x0003 0 0) 6 with unit := .lec 0 }
    s.unit = .lec 0 ∧ (0 : Word).toNat + 6 ≤ s.lim ∧ be s 4 2 = (0x0003 : Half).toNat := by decide

theorem witness_OpcodeSelection_unknown :
    let s := { holding (leHeader 0xFFFF 0 0) 6 with unit := .lec 0 }
    (0 : Word).toNat + 6 ≤ s.lim ∧ ∀ e ∈ opcodeRows, be s 4 2 ≠ e.2.1.toNat := by decide

theorem witness_BodyAndTlvSelection :
    ({ State.reset with unit := .body 65568 }.unit = .body 65568 ∧ (65568 : Word).toNat ≤ 65568) ∧
    ({ State.reset with unit := .tlv 65621 9 }.unit = .tlv 65621 9 ∧ (65621 : Word).toNat ≤ 65568 + 53) := by decide

theorem witness_OverlongJobRefused :
    (Instr.jobPduTail ∈ jobRows ∧ 65568 < (latched 4 0 0 65569 0).dl.l.toNat) ∧
    ((latched 4 0 0 65568 0).dl.l.toNat ≤ 65568 ∧ (latched 4 0 0 65568 0).errCode = .none) := by decide

theorem witness_JobCellResult :
    ((latched 1 0 0 5 5).unit = .job ∧ (latched 1 0 0 5 5).dl.aal ≠ 4 ∧ (latched 1 0 0 5 5).dl.aal ≠ 6) ∧
    ((latched 1 0 0 5 5).dl.l.toNat ≤ 65568 ∧ 5 ≤ (latched 1 0 0 5 5).dl.l.toNat) ∧
    (latched 1 0 0 4 4).dl.l.toNat < 5 := by decide

theorem witness_VpiVciPlacement : 5 ≤ (holding [0x12, 0x34, 0x56, 0x78, 0x9A] 5).lim := by decide

theorem witness_JobPduTruncAndCutResult :
    let s := { latched 4 0 0 60 96 with dl := { (latched 4 0 0 60 96).dl with truncated := true } }
    (s.unit = .job ∧ s.dl.aal = 4 ∧ s.dl.truncated = true) ∧
    ((latched 6 0 0 60 61).unit = .job ∧ (latched 6 0 0 60 61).dl.aal = 6 ∧ (latched 6 0 0 60 61).dl.truncated = false ∧
      (latched 6 0 0 60 61).dl.l.toNat < (latched 6 0 0 60 61).dl.rl.toNat) ∧
    (latched 4 0 0 65568 0).dl.l.toNat ≤ 65568 := by decide

theorem witness_JobPduTailResult :
    let s := latched 4 0 0 60 60
    (s.unit = .job ∧ s.dl.aal = 4 ∧ s.dl.truncated = false ∧ s.dl.rl.toNat ≤ s.dl.l.toNat) ∧
    (latched 4 0 0 7 0).dl.l.toNat < 8 ∧
    (let t := holding [0, 0, 0, 1, 0, 0, 0, 0] 8
     t.dl.l.toNat - 8 < be t (t.dl.l.toNat - 6) 2) ∧
    (let t := holding [0, 0, 0, 0, 0, 0, 0, 0] 8
     be t (t.dl.l.toNat - 6) 2 = t.dl.l.toNat - 8) := by decide

theorem witness_TailLengthBound :
    let s := holding (List.replicate 40 0 ++ [0x00, 0x00, 0x00, 0x1C, 0x12, 0x34, 0x56, 0x78]) 48
    s.errCode = .none ∧ s.isValid .a5Pad = false ∧
      ∃ t, exec .jobPduTail s = .next t ∧ t.errCode = .none ∧ t.isValid .a5Pad = true :=
  ⟨by decide, by decide, _, rfl, by decide, by decide⟩

theorem witness_PduDispatchResult :
    (0 : Word).toNat + (65568 : Word).toNat ≤ 65568 ∧
    ({ latched 6 0 0 0 0 with unit := .pdu 0 65568 }.unit = .pdu 0 65568 ∧ (latched 6 0 0 0 0).dl.aal = 6) ∧
    ({ latched 4 2 0 0 0 with unit := .pdu 0 65568 }.unit = .pdu 0 65568 ∧ (latched 4 2 0 0 0).dl.aal = 4) := by decide

theorem witness_LaneSplitResult :
    (0 : Word).toNat + (65568 : Word).toNat ≤ 65568 ∧
    ({ latched 4 3 6 0 0 with unit := .lane 0 65568 }.unit = .lane 0 65568 ∧ (latched 4 3 6 0 0).dl.aal = 4 ∧
      (latched 4 3 6 0 0).dl.trafType = 3) := by decide

theorem witness_LaneDataResult :
    (holding [0, 5] 2).lim = (0 : Word).toNat + (2 : Word).toNat ∧
    (holding [0] 1).lim = (0 : Word).toNat + (1 : Word).toNat := by decide

theorem witness_ReadyRowsResult : (0 : Word).toNat + 6 ≤ (holding (leHeader 3 0 0) 6).lim := by decide

theorem witness_ConfigureJoinHeaderResult : (0 : Word).toNat + 16 ≤ (holding (leHeader 1 0 2) 16).lim := by decide

theorem witness_ArpHeaderResult : (0 : Word).toNat + 16 ≤ (holding (leHeader 6 0 1) 16).lim := by decide

theorem witness_PlainBodyHeaderResult : (0 : Word).toNat + 16 ≤ (holding (leHeader 4 0 0) 16).lim := by decide

theorem witness_NoBodyHeaderResult :
    (0 : Word).toNat + 16 ≤ (holding (leHeader 0x0110 7 0) 16).lim ∧ ∀ e ∈ opcodeRows, (0x0110 : Half) ≠ e.2.1 := by
  decide

theorem witness_HeaderTruncation :
    let s := holding (leHeader 1 0 0) 15
    (∃ e ∈ opcodeRows, Instr.configureRequest 0 = e.1 0 ∧ (0x0001 : Half) = e.2.1 ∧ 0 = e.2.2.1 ∧ 0 ≠ 4 ∧ 0 ≠ 5) ∧
    ∃ pre x post, headerFields s 0 0x0001 0 = pre ++ x :: post ∧ (pre = [] ∨ 0 + x.1 ≤ s.lim) ∧
      s.lim < 0 + x.1 + x.2.1 :=
  ⟨⟨(.configureRequest, 0x0001, 0, .configureJoin), by simp [opcodeRows], rfl, rfl, rfl, by decide, by decide⟩,
   (headerFields (holding (leHeader 1 0 0) 15) 0 0x0001 0).take 7, _, [], rfl, by decide, by decide⟩

theorem witness_HeaderTruncation_first_field :
    let s := holding [] 1
    (∀ e ∈ opcodeRows, (0xFFFF : Half) ≠ e.2.1) ∧
    ∃ pre x post, headerFields s 0 0xFFFF 31 = pre ++ x :: post ∧ (pre = [] ∨ 0 + x.1 ≤ s.lim) ∧
      s.lim < 0 + x.1 + x.2.1 :=
  ⟨by decide, [], _, _, rfl, Or.inl rfl, by decide⟩

theorem witness_ShortFrameRaises :
    let s := { holding (leHeader 3 0 0) 5 with unit := .lec 0 }
    s.port = [] ∧ s.phase = .busy ∧ s.unit = .lec 0 ∧ s.lim < (0 : Word).toNat + 6 ∧
    ∃ pre x post, (headerFields s 0 0 31).take 4 = pre ++ x :: post ∧ (pre = [] ∨ 0 + x.1 ≤ s.lim) ∧
      s.lim < 0 + x.1 + x.2.1 :=
  ⟨rfl, rfl, rfl, by decide, (headerFields { holding (leHeader 3 0 0) 5 with unit := .lec 0 } 0 0 31).take 3, _, [],
   rfl, by decide, by decide⟩

theorem witness_CjBodyResult :
    (let s := holding (List.replicate 76 0) 76
     (0 : Word).toNat + 76 + min (byteAt s 75).toNat 32 ≤ s.lim) ∧
    (let s := holding (List.replicate 75 0 ++ [255] ++ List.replicate 32 0) 108
     (0 : Word).toNat + 76 + min (byteAt s 75).toNat 32 ≤ s.lim) := by decide

theorem witness_CjBodyResult_other_layout :
    let s := holding (List.replicate 52 0 ++ [1, 2, 0, 4] ++ List.replicate 24 0) 80
    alternative.elanNameMax ≤ 32 ∧ (0 : Word).toNat + 76 + cjNameLen alternative s 0 ≤ s.lim := by decide

theorem witness_RegBodyResult : (0 : Word).toNat + 55 ≤ (holding [] 55).lim := by decide

theorem witness_ArpBodyResult : (0 : Word).toNat + 76 ≤ (holding [] 76).lim := by decide

theorem witness_FlushBodyResult : (0 : Word).toNat + 76 ≤ (holding [] 76).lim := by decide

theorem witness_VerifyBodyResult :
    { holding [] 54 with cur := 16 }.cur = (0 : Word).toNat + 16 ∧ { holding [] 54 with cur := 16 }.lim < 0 + 55 ∧
    { holding [] 75 with cur := 16 }.cur = (0 : Word).toNat + 16 ∧ { holding [] 75 with cur := 16 }.lim < 0 + 76 ∧
    { holding [] 76 with cur := 16 }.cur = (0 : Word).toNat + 16 := by decide

/-- A LAN destination field with a given tag. -/
def ldField (tag : Byte) : List Byte := [0, tag, 0, 0, 0, 0, 0, 0]

/-- LD0 and LD1 cut at their tag, their MAC and their route word (95 D5 to D9), then ATM0 cut behind two absent ones. -/
theorem witness_BodyTruncation :
    Instr.cjBody 0 ∈ [Instr.cjBody 0, .regBody 0, .arpBody 0, .flushBody 0] ∧
    ldCut Config.aldb (holding [] 17) 16 = some 16 ∧
    ldCut Config.aldb (holding (List.replicate 16 0 ++ ldField 1) 23) 16 = some 18 ∧
    ldCut Config.aldb (holding (List.replicate 16 0 ++ ldField 2) 23) 16 = some 22 ∧
    (let s := holding (List.replicate 16 0 ++ ldField 0) 18
     ldCut Config.aldb s 16 = none ∧ ldCut Config.aldb s 24 = some 24) ∧
    (let s := holding (List.replicate 16 0 ++ ldField 1 ++ ldField 1) 31
     ldCut Config.aldb s 16 = none ∧ ldCut Config.aldb s 24 = some 26) ∧
    (let s := holding (List.replicate 16 0 ++ ldField 2 ++ ldField 2) 31
     ldCut Config.aldb s 16 = none ∧ ldCut Config.aldb s 24 = some 30) ∧
    (let s := holding (List.replicate 16 0 ++ ldField 0 ++ ldField 0) 26
     ldCut Config.aldb s 16 = none ∧ ldCut Config.aldb s 24 = none ∧ s.lim < 0 + 52) := by decide

/-- ATM1, the count and the name cut (95 E8, E14d), in both layouts. -/
theorem witness_BodyTruncation_after_atm0 :
    (0 + 52 ≤ (holding [] 54).lim ∧ (holding [] 54).lim < 0 + 55 ∧ Instr.regBody 0 = .regBody 0) ∧
    (0 + 55 ≤ (holding [] 75).lim ∧ (holding [] 75).lim < 0 + 76 ∧ Instr.arpBody 0 = .arpBody 0) ∧
    (0 + 52 ≤ (holding [] 75).lim ∧ (holding [] 75).lim < 0 + 76 ∧ Instr.flushBody 0 = .flushBody 0) ∧
    (∃ pre x post, cjFields Config.aldb (holding [] 73) 0 = pre ++ x :: post ∧ 0 + x.1 ≤ (holding [] 73).lim ∧
      (holding [] 73).lim < 0 + x.1 + x.2.1) ∧
    (∃ pre x post, cjFields alternative (holding [] 56) 0 = pre ++ x :: post ∧ 0 + x.1 ≤ (holding [] 56).lim ∧
      (holding [] 56).lim < 0 + x.1 + x.2.1) ∧
    (let s := holding (List.replicate 75 0 ++ [4]) 79
     0 + 76 ≤ s.lim ∧ s.lim < 0 + 76 + cjNameLen Config.aldb s 0) :=
  ⟨by decide, by decide, by decide,
   ⟨(cjFields Config.aldb (holding [] 73) 0).take 2, _, (cjFields Config.aldb (holding [] 73) 0).drop 3, rfl, by decide,
     by decide⟩,
   ⟨(cjFields alternative (holding [] 56) 0).take 4, _, [], rfl, by decide, by decide⟩, by decide⟩

theorem witness_LdDecodeResult : ((0 : BitVec 8) = 0 ∨ (0 : BitVec 8) = 1) ∧ ((1 : BitVec 8) = 0 ∨ (1 : BitVec 8) = 1) := by
  decide

theorem witness_TlvWalkResult :
    let s := holding [0, 0, 0, 0, 1, 9] 6
    ∀ k < (1 : BitVec 8).toNat, tlvStart s.buf (0 : Word).toNat (k + 1) ≤ s.lim := by decide

theorem witness_TlvWalkErrors :
    (let s := holding [0, 0, 0, 0, 1] 5
     0 < (1 : BitVec 8).toNat ∧ (∀ k < 0, tlvStart s.buf (0 : Word).toNat (k + 1) ≤ s.lim) ∧
       s.lim < tlvStart s.buf (0 : Word).toNat 1) ∧
    (let s := holding [0, 0, 0, 0, 0, 7] 9
     1 < (2 : BitVec 8).toNat ∧ (∀ k < 1, tlvStart s.buf (0 : Word).toNat (k + 1) ≤ s.lim) ∧
       s.lim < tlvStart [(9, 0)] 5 1) := by decide

theorem witness_StartLatchesAndClears :
    ((hosted [.wr 0x000 4 5]).port = .wr 0x000 4 5 :: [] ∧ (hosted [.wr 0x000 4 5]).phase = .idle ∧
      (5 : Word).getLsbD 0 = true ∧ (5 : Word).getLsbD 1 = false) ∧
    ((startedWith []).port = [] ∧ (startedWith []).phase = .busy) := by decide

theorem witness_ControlAndStatusWrites :
    ((startedWith [.wr 0x000 4 5]).port = [.wr 0x000 4 5] ∧ (5 : Word).getLsbD 1 = false ∧
      (startedWith [.wr 0x000 4 5]).phase = .busy) ∧
    ((hosted [.wr 0x000 4 4]).port = [.wr 0x000 4 4] ∧ (4 : Word).getLsbD 1 = false ∧ (4 : Word).getLsbD 0 = false) ∧
    (hosted [.wr 0x004 4 2]).port = [.wr 0x004 4 2] := by decide

theorem witness_SoftResetResult :
    (startedWith [.wr 0x000 4 3]).port = [.wr 0x000 4 3] ∧ (3 : Word).getLsbD 1 = true := by decide

theorem witness_DescriptorWrites :
    (hosted [.wr 0x010 4 53]).port = [.wr 0x010 4 53] ∧ (startedWith [.wr 0x028 4 53]).port = [.wr 0x028 4 53] := by
  decide

theorem witness_OtherWritesIgnored :
    ((hosted [.wr 0xDFC 4 1]).port = [.wr 0xDFC 4 1] ∧ 0xDFC % 4 = 0 ∧ 0xDFC < 0xE00 ∧ ¬ (0x010 ≤ 0xDFC ∧ 0xDFC ≤ 0x028)) ∧
    ((hosted [.rd 0x02C 4]).port = [.rd 0x02C 4] ∧ 0x02C % 4 = 0 ∧ ¬ namedAddress 0x02C) := by
  refine ⟨by decide, rfl, rfl, ?_⟩
  unfold namedAddress
  omega

theorem witness_ScalarRegisterReads :
    (hosted [.rd 0x09C 4]).phase = .idle ∧ (hosted [.rd 0x09C 4]).port = [.rd 0x09C 4] := by decide

theorem witness_PackedRegisterReads :
    (hosted [.rd 0xDF0 4]).phase = .idle ∧ (hosted [.rd 0xDF0 4]).port = [.rd 0xDF0 4] ∧ 254 < 255 ∧
      0xDF0 = 0x208 + 12 * 254 ∧ 0 = (tlvSlot (hosted [.rd 0xDF0 4]).r.tlvs 254).voff.toNat := by decide

/-- The invariant holds just after a START. -/
theorem started_meets_inv (p : List PortOp) : Inv (startedWith p) where
  buf := rfl
  busyClean := fun _ => ⟨rfl, rfl⟩
  errPair := ⟨fun _ => rfl, fun _ => rfl⟩
  errOffset := fun _ => rfl
  lim := by show 0 ≤ 65568; decide
  limLatch := fun _ h => absurd rfl h
  cur := by show 0 ≤ 0 + 53; decide
  flags := by show (0 : Word) &&& _ = 0; decide
  vpi := by show (0 : BitVec 12).extractLsb' 4 4 = 0; decide
  opclass := Or.inl (by show 0 ≤ 17; decide)
  nameLen := by show 0 ≤ 32; decide
  tlvsDone := by show 0 ≤ 255; decide
  tlvSlots := by show 0 ≤ 255; decide
  idle := fun h => by cases h
  unit := fun _ => trivial

/-- The invariant holds of an engine at rest whose record an earlier job left. -/
theorem hosted_meets_inv (p : List PortOp) (v : BitVec 32) : Inv { hosted p with valid := v } where
  buf := rfl
  busyClean := fun h => by cases h
  errPair := ⟨fun _ => rfl, fun _ => rfl⟩
  errOffset := fun _ => rfl
  lim := by show 0 ≤ 65568; decide
  limLatch := fun h => by cases h
  cur := by show 0 ≤ 0 + 53; decide
  flags := by show (0 : Word) &&& _ = 0; decide
  vpi := by show (0 : BitVec 12).extractLsb' 4 4 = 0; decide
  opclass := Or.inl (by show 0 ≤ 17; decide)
  nameLen := by show 0 ≤ 32; decide
  tlvsDone := by show 0 ≤ 255; decide
  tlvSlots := by show 0 ≤ 255; decide
  idle := fun _ => rfl
  unit := fun h => by cases h

theorem witness_ReadsWhileBusy :
    (Inv (startedWith [.rd 0x004 4]) ∧ (startedWith [.rd 0x004 4]).phase = .busy) ∧
    (startedWith [.rd 0x018 4]).port = [.rd 0x018 4] ∧
    (Inv (startedWith [.rd 0xDF0 4]) ∧ 0xDF0 % 4 = 0 ∧ namedAddress 0xDF0 ∧ 0x040 ≤ 0xDF0) :=
  ⟨⟨started_meets_inv _, rfl⟩, rfl, started_meets_inv _, rfl, by unfold namedAddress; omega, by decide⟩

theorem witness_RegisterAccessShape :
    ((hosted [.rd 0x004 2]).port = [.rd 0x004 2] ∧ 2 ≠ 4) ∧ ((hosted [.wr 0x002 4 0]).port = [.wr 0x002 4 0] ∧ 2 % 4 ≠ 0) ∧
    ((hosted [.wr 0xDFC 4 0]).port = [.wr 0xDFC 4 0] ∧ 0xDFC % 4 = 0 ∧ 0xDFC < 0xE00) ∧
    ((hosted [.expect 0x002 1]).port = [.expect 0x002 1] ∧ 0x002 % 4 ≠ 0) := by decide

/-- 20 R62: an EXPECT of another alignment is refused, whether or not its value would hold. -/
theorem test_expect_misaligned :
    step (hosted [.expect 0x002 1]) = .refused (.registerAccessShape 0x002 4) ∧
    step (hosted [.expect 0x0C1 0]) = .refused (.registerAccessShape 0x0C1 4) := ⟨rfl, rfl⟩

theorem witness_BufferPortAndBounds :
    ((hosted [.bufWr 65567 1]).port = [.bufWr 65567 1] ∧ (hosted [.bufWr 65567 1]).phase = .idle) ∧
    ((startedWith [.bufWr 0 1]).port = [.bufWr 0 1] ∧ (startedWith [.bufWr 0 1]).phase = .busy) ∧
    (hosted [.bufRd 65567]).port = [.bufRd 65567] ∧ (hosted [.bufRd 65568]).port = [.bufRd 65568] ∧
    ((hosted [.wr 0xE00 4 0]).port = [.wr 0xE00 4 0] ∧ 0xE00 % 4 = 0) ∧
    (hosted [.expect 0xE00 0]).port = [.expect 0xE00 0] := by decide

theorem witness_WaitAndExpect :
    ({ hosted [.wait] with done := true }.port = [.wait] ∧ { hosted [.wait] with done := true }.done = true) ∧
    ((hosted [.wait]).done = false ∧ (hosted [.wait]).phase = .idle) ∧
    (hosted [.expect 0x040 0]).port = [.expect 0x040 0] ∧
    ((startedWith [.expect 0xDFC 0]).port = [.expect 0xDFC 0] ∧ 0xDFC % 4 = 0 ∧ 0xDFC < 0xE00) := by decide

theorem witness_ConfigRegister :
    (startedWith [.rd 0x00C 4]).port = [.rd 0x00C 4] ∧ (hosted [.wr 0x00C 4 3]).port = [.wr 0x00C 4 3] := by decide

theorem witness_InterruptSource :
    let s := { startedWith [] with irqEn := true }
    let u := { hosted [.wr 0x000 4 4] with done := true }
    (s.irq = false ∧ ∃ t, step s = .next t ∧ t.irq = true) ∧ (u.irq = false ∧ ∃ t, step u = .next t ∧ t.irq = true) :=
  ⟨⟨rfl, _, rfl, by decide⟩, rfl, _, rfl, by decide⟩

/-- irq is high before each of the writes that bring it low. -/
theorem witness_InterruptSource_low :
    let pending := fun (p : List PortOp) => { hosted p with done := true, irqEn := true }
    ((pending [.wr 0x004 4 2]).irq = true ∧ (pending [.wr 0x004 4 2]).port = [.wr 0x004 4 2] ∧ (2 : Word).getLsbD 1 = true) ∧
    ((pending [.wr 0x000 4 5]).port = [.wr 0x000 4 5] ∧ (5 : Word).getLsbD 0 = true ∧
      (pending [.wr 0x000 4 5]).phase = .idle) ∧
    ((pending [.wr 0x000 4 6]).port = [.wr 0x000 4 6] ∧ (6 : Word).getLsbD 1 = true) ∧
    ((pending [.wr 0x000 4 0]).port = [.wr 0x000 4 0] ∧ (0 : Word).getLsbD 2 = false) := by decide

theorem witness_PhaseMoves :
    (let s := hosted [.wr 0x000 4 1]
     s.phase = .idle ∧ ∃ t, step s = .next t ∧ t.phase = .busy) ∧
    (let s := startedWith []
     s.phase = .busy ∧ ∃ t, step s = .next t ∧ t.phase = .idle) :=
  ⟨⟨rfl, _, rfl, rfl⟩, rfl, _, rfl, rfl⟩

theorem witness_ResultsHoldWhileIdle :
    let s := { hosted [.wr 0x010 4 9] with valid := 1 }
    s.phase = .idle ∧ ∃ t, step s = .next t ∧ t.valid = 1 := ⟨rfl, _, rfl, rfl⟩

theorem witness_StepRunsSelectedRow :
    ((startedWith []).phase = .busy ∧ fetch (startedWith []) = .row .jobCell ∧ (startedWith []).port = []) ∧
    ((startedWith [.tick]).port = [.tick] ∧ (startedWith [.wait]).port = [.wait] ∧ (startedWith [.wait]).done = false) ∧
    ((hosted []).port = [] ∧ (hosted []).phase = .idle) ∧
    fetchIn alternative (startedWith []) = .row .jobCell := by decide

theorem witness_ErrorEndsJob :
    (startedWith []).errCode = .none ∧ ∃ t, exec .jobCell (startedWith []) = .next t ∧ t.errCode ≠ .none :=
  ⟨rfl, _, rfl, by decide⟩

theorem witness_RowReadsOnlyBelowLimit :
    ∀ a < limitOf .hdrUnpack (holding [1, 2, 3, 4, 5] 5),
      Memory.read [(0, 1), (1, 2), (2, 3), (3, 4), (4, 5), (9, 7)] a = Memory.read (holding [1, 2, 3, 4, 5] 5).buf a := by
  decide

theorem witness_StepKeepsInv : Inv (startedWith []) ∧ ∃ t, step (startedWith []) = .next t := ⟨started_meets_inv _, _, rfl⟩

/-- An engine after power-on meets R32, since every result field reads 0. -/
theorem hosted_meets_zero (p : List PortOp) : ZeroUnlessValid (hosted p) where
  low := by constructor <;> intro <;> simp [hosted, State.reset, Record.zero]
  high := by constructor <;> intro <;> simp [hosted, State.reset, Record.zero]
  reserved := by show (0 : BitVec 32).extractLsb' 27 5 = 0; decide

theorem witness_StepKeepsZeroUnlessValid :
    ZeroUnlessValid (hosted [.wr 0x000 4 1]) ∧ ∃ t, step (hosted [.wr 0x000 4 1]) = .next t :=
  ⟨hosted_meets_zero _, _, rfl⟩

theorem witness_BusyJobEnds : Inv (startedWith []) ∧ (startedWith []).phase = .busy ∧ (startedWith []).port = [] :=
  ⟨started_meets_inv _, rfl, rfl⟩

theorem witness_JobIndependentOfEarlierRecord :
    let s := { hosted [.wr 0x000 4 1] with valid := 0 }
    let s' := { hosted [.wr 0x000 4 1] with valid := 0x01 }
    Inv s ∧ Inv s' ∧ s.phase = .idle ∧ s'.phase = .idle ∧ s.port = [.wr 0x000 4 1] ∧ s'.port = [.wr 0x000 4 1] ∧
      s'.desc = s.desc ∧ ∀ a < s.desc.capLen.toNat, byteAt s' a = byteAt s a :=
  ⟨hosted_meets_inv _ _, hosted_meets_inv _ _, rfl, rfl, rfl, rfl, rfl, fun _ _ => rfl⟩

theorem witness_ResetDescriptorRunsJobCell :
    (hosted [.wr 0x000 4 1]).phase = .idle ∧ (hosted [.wr 0x000 4 1]).desc = State.reset.desc ∧
      (hosted [.wr 0x000 4 1]).port = [.wr 0x000 4 1] := by decide

theorem witness_EnginesIndependent :
    ∃ b', Block.step alternative [hosted [], startedWith []] 1 = .next b' := ⟨_, rfl⟩

end Sys2Proof.Tests
end

section
/-! PROOFS. Rows: a relation between states that the named updates of a job respect holds of every row (60 R263), and
with it what the engine leaves alone. -/

namespace Sys2Proof.Proofs

open Sys2Proof Sys2Proof.Machine Sys2Proof.Safety Sys2Proof.Laws

/-- A relation between an earlier and a later state of one job that every update a row makes respects: a result
written, a valid bit set, the engine's place moved, the job ended. -/
structure Respected (I : State → State → Prop) : Prop where
  refl : ∀ s, I s s
  trans : ∀ s t u, I s t → I t u → I s u
  record : ∀ s r, I s { s with r := r }
  setV : ∀ s b, I s (s.setV b)
  place : ∀ s u lim cur, I s { s with unit := u, lim := lim, cur := cur }
  endJob : ∀ s, I s s.endJob

section Rows

variable {I : State → State → Prop} {α β : Type}

/-! The primitives. -/

theorem Respected.leaves_bind (h : Respected I) {m : Dec α} {g : α → Dec β} (hm : Leaves I m)
    (hg : ∀ a, Leaves I (g a)) : Leaves I (m >>= g) := Laws.leaves_bind h.trans hm hg

theorem leaves_ite {p : Prop} [Decidable p] {m m' : Dec α} (hm : Leaves I m) (hm' : Leaves I m') :
    Leaves I (if p then m else m') := by split <;> assumption

theorem Respected.leaves_pure (h : Respected I) (a : α) : Leaves I (pure a : Dec α) := Laws.leaves_pure h.refl a

theorem Respected.leaves_memRead (h : Respected I) (u : ErrUnit) (o n : Nat) : Leaves I (memRead u o n) :=
  Laws.leaves_memRead h.refl u o n

theorem Respected.leaves_memBytes (h : Respected I) (u : ErrUnit) (o n : Nat) : Leaves I (memBytes u o n) :=
  Laws.leaves_memBytes h.refl u o n

theorem Respected.leaves_setCur (h : Respected I) (o : Nat) : Leaves I (setCur o) :=
  leaves_put' fun s => h.place s s.unit s.lim o

theorem Respected.leaves_skip (h : Respected I) (n : Nat) : Leaves I (skip n) :=
  leaves_put' fun s => h.place s s.unit s.lim (s.cur + n)

theorem Respected.leaves_enter (h : Respected I) (u : EngineUnit) : Leaves I (enter u) :=
  leaves_put' fun s => h.place s u s.lim s.cur

theorem Respected.leaves_finish (h : Respected I) : Leaves I finish := leaves_put' h.endJob

theorem Respected.leaves_putField (h : Respected I) (g : Record → Record) (b : VBit) : Leaves I (putField g b) :=
  leaves_put' fun s => h.trans _ _ _ (h.record s (g s.r)) (h.setV _ b)

theorem Respected.leaves_dispatch (h : Respected I) (t : Target) (off len : Nat) : Leaves I (dispatch t off len) :=
  h.leaves_putField _ _

theorem Respected.leaves_readField (h : Respected I) (u : ErrUnit) (o n : Nat) (b : VBit)
    (g : Nat → Record → Record) : Leaves I (readField u o n b g) :=
  h.leaves_bind (h.leaves_memRead _ _ _) fun _ =>
  h.leaves_bind (h.leaves_putField _ _) fun _ =>
  h.leaves_bind (h.leaves_setCur _) fun _ => h.leaves_pure _

/-! Jobs, dispatch and LANE (40, 41, 42). -/

theorem Respected.leaves_decodeCellHeader (h : Respected I) (c : Config) : Leaves I (decodeCellHeader c) :=
  h.leaves_bind (h.leaves_memRead _ _ _) fun _ => h.leaves_bind (h.leaves_putField _ _) fun _ => h.leaves_setCur _

theorem Respected.leaves_jobEnter (h : Respected I) (c : Config) : Leaves I (jobEnter c) := by
  intro s
  rw [jobEnter_eq]
  split
  · exact h.refl s
  · exact h.place s s.unit _ 0

theorem Respected.leaves_cellPath (h : Respected I) (c : Config) : Leaves I (cellPath c) :=
  h.leaves_bind (h.leaves_decodeCellHeader c) fun _ =>
  h.leaves_bind (fun s => h.leaves_dispatch _ _ _ s) fun _ => h.leaves_finish

theorem Respected.metaTrailer (h : Respected I) (s : State) : I s (metaTrailer s) := by
  unfold Machine.metaTrailer
  split
  · exact h.refl s
  · exact h.trans _ _ _ (h.trans _ _ _ (h.record s _) (h.setV _ _)) (h.setV _ _)

theorem Respected.inferCells (h : Respected I) (c : Config) (s : State) : I s (inferCells c s) := by
  unfold Machine.inferCells
  split
  · exact h.trans _ _ _ (h.record s _) (h.setV _ _)
  · exact h.refl s

theorem Respected.leaves_pduTrunc (h : Respected I) : Leaves I pduTrunc :=
  fun s => h.trans _ _ _ (h.metaTrailer s) (h.leaves_enter (.pdu 0 s.dl.l) _)

theorem Respected.leaves_tailFits (h : Respected I) : Leaves I tailFits := by
  intro s
  unfold tailFits
  split <;> exact h.refl s

theorem Respected.leaves_tailTrailer (h : Respected I) (l : Nat) : Leaves I (tailTrailer l) :=
  h.leaves_bind (h.leaves_memRead _ _ _) fun _ =>
  h.leaves_bind (leaves_put' fun s => h.record s _) fun _ =>
  h.leaves_bind (h.leaves_memRead _ _ _) fun _ =>
  h.leaves_bind (leaves_put' fun s => h.record s _) fun _ =>
  h.leaves_bind (h.leaves_memRead _ _ _) fun _ => h.leaves_putField _ _

theorem Respected.leaves_tailLength (h : Respected I) (l : Nat) : Leaves I (tailLength l) := by
  intro s
  unfold tailLength
  split
  · exact h.refl s
  · split
    · exact h.leaves_putField _ _ s
    · exact h.refl s

theorem Respected.leaves_pduTail (h : Respected I) (c : Config) (l : Nat) : Leaves I (pduTail c l) :=
  h.leaves_bind h.leaves_tailFits fun _ =>
  h.leaves_bind (h.leaves_tailTrailer l) fun _ =>
  h.leaves_bind (leaves_put' (h.inferCells c)) fun _ =>
  h.leaves_bind (h.leaves_tailLength l) fun _ => fun s => h.leaves_enter _ s

theorem Respected.leaves_handOn (h : Respected I) (t : Target) (po pl : Nat) : Leaves I (handOn t po pl) :=
  h.leaves_bind (h.leaves_dispatch _ _ _) fun _ => h.leaves_finish

theorem Respected.leaves_laneSplit (h : Respected I) (po pl : Word) : Leaves I (laneSplit po pl) :=
  h.leaves_bind (leaves_put' fun s => h.place s s.unit _ _) fun _ => h.leaves_enter _

theorem Respected.leaves_laneLe (h : Respected I) (po pl : Word) : Leaves I (laneLe po pl) :=
  h.leaves_bind (h.leaves_dispatch _ _ _) fun _ => h.leaves_enter _

theorem Respected.leaves_laneData (h : Respected I) (t : Target) (po pl : Nat) : Leaves I (laneData t po pl) :=
  h.leaves_bind (h.leaves_readField _ _ _ _ _) fun _ =>
  h.leaves_bind (h.leaves_dispatch _ _ _) fun _ => h.leaves_finish

/-! LAN destinations and TLVs (45). -/

theorem Respected.leaves_ldWrite (h : Respected I) (d i : Nat) (g : LanDest → LanDest) : Leaves I (ldWrite d i g) :=
  h.leaves_bind (h.leaves_putField _ _) fun _ => h.leaves_setCur _

theorem Respected.leaves_lanDest (h : Respected I) (c : Config) (d i : Nat) : Leaves I (lanDest c d i) :=
  h.leaves_bind (h.leaves_memRead _ _ _) fun _ =>
  leaves_ite (h.leaves_bind (h.leaves_memRead _ _ _) fun _ => h.leaves_ldWrite _ _ _)
    (leaves_ite (h.leaves_bind (h.leaves_memRead _ _ _) fun _ => h.leaves_ldWrite _ _ _) (h.leaves_ldWrite _ _ _))

theorem Respected.leaves_tlvFits (h : Respected I) (t len : Nat) : Leaves I (tlvFits t len) := by
  intro s
  rw [tlvFits_eq]
  split <;> exact h.refl s

theorem Respected.leaves_tlvRecord (h : Respected I) (k t typ len : Nat) : Leaves I (tlvRecord k t typ len) :=
  leaves_put' fun s => h.trans _ _ _ (h.place s s.unit s.lim (t + 5 + len)) (h.record { s with cur := t + 5 + len } _)

theorem Respected.leaves_tlvLoop (h : Respected I) (n k t : Nat) : Leaves I (tlvLoop n k t) := by
  induction n generalizing k t with
  | zero => exact h.leaves_pure ()
  | succ n ih =>
    exact h.leaves_bind (h.leaves_memRead _ _ _) fun _ =>
      h.leaves_bind (h.leaves_memRead _ _ _) fun _ =>
      h.leaves_bind (h.leaves_tlvFits _ _) fun _ =>
      h.leaves_bind (h.leaves_tlvRecord _ _ _ _) fun _ => ih _ _

theorem Respected.leaves_tlvWalkEnd (h : Respected I) (o n : Nat) : Leaves I (tlvWalkEnd o n) :=
  h.leaves_bind
    (h.leaves_bind (h.leaves_putField _ _) fun _ =>
      h.leaves_bind (h.leaves_setCur _) fun _ => h.leaves_tlvLoop _ _ _)
    fun _ => h.leaves_finish

/-! The LE Control bodies (44). -/

theorem Respected.leaves_readAtm0 (h : Respected I) (o : Nat) : Leaves I (readAtm0 o) :=
  h.leaves_bind (h.leaves_memBytes _ _ _) fun _ => h.leaves_bind (h.leaves_putField _ _) fun _ => h.leaves_setCur _

theorem Respected.leaves_readAtm1 (h : Respected I) (o : Nat) : Leaves I (readAtm1 o) :=
  h.leaves_bind (h.leaves_memBytes _ _ _) fun _ => h.leaves_bind (h.leaves_putField _ _) fun _ => h.leaves_setCur _

theorem Respected.leaves_readNumTlvs (h : Respected I) (o : Nat) : Leaves I (readNumTlvs o) :=
  h.leaves_readField _ _ _ _ _

theorem Respected.leaves_bodyHead (h : Respected I) (c : Config) (f : Nat) : Leaves I (bodyHead c f) :=
  h.leaves_bind (h.leaves_lanDest _ _ _) fun _ =>
  h.leaves_bind (h.leaves_lanDest _ _ _) fun _ => h.leaves_readAtm0 _

theorem Respected.leaves_cjScalars (h : Respected I) (c : Config) (o : Nat) : Leaves I (cjScalars c o) :=
  h.leaves_bind (h.leaves_readField _ _ _ _ _) fun _ =>
  h.leaves_bind (h.leaves_readField _ _ _ _ _) fun _ =>
  h.leaves_bind (h.leaves_readNumTlvs _) fun _ =>
  h.leaves_bind (h.leaves_readField _ _ _ _ _) fun _ => h.leaves_pure _

theorem Respected.leaves_cjMiddle (h : Respected I) (c : Config) (f : Nat) : Leaves I (cjMiddle c f) := by
  unfold cjMiddle
  split
  · exact h.leaves_bind (h.leaves_readAtm1 _) fun _ => h.leaves_cjScalars _ _
  · exact h.leaves_bind (h.leaves_cjScalars _ _) fun _ =>
      h.leaves_bind (h.leaves_readAtm1 _) fun _ => h.leaves_pure _

theorem Respected.leaves_readName (h : Respected I) (o : Nat) : Leaves I (readName o) := by
  intro s
  unfold readName
  split
  · exact h.leaves_bind (h.leaves_memBytes _ _ _) (fun _ => leaves_put' fun t => h.record t _) s
  · exact h.refl s

theorem Respected.leaves_elanName (h : Respected I) (c : Config) (o : Nat) : Leaves I (elanName c o) :=
  h.leaves_bind (h.leaves_readName _) fun _ =>
  h.leaves_bind (h.leaves_putField _ _) fun _ => h.leaves_setCur _

theorem Respected.leaves_cjBody (h : Respected I) (c : Config) (f : Nat) : Leaves I (cjBody c f) :=
  h.leaves_bind (h.leaves_bodyHead c f) fun _ =>
  h.leaves_bind (h.leaves_cjMiddle c f) fun _ =>
  h.leaves_bind (h.leaves_elanName c _) fun _ =>
  h.leaves_bind (h.leaves_setCur _) fun _ => h.leaves_enter _

theorem Respected.leaves_regBody (h : Respected I) (c : Config) (f : Nat) : Leaves I (regBody c f) :=
  h.leaves_bind (h.leaves_bodyHead c f) fun _ =>
  h.leaves_bind (h.leaves_skip _) fun _ =>
  h.leaves_bind (h.leaves_readNumTlvs _) fun _ =>
  h.leaves_bind (h.leaves_skip _) fun _ => h.leaves_enter _

theorem Respected.leaves_arpBody (h : Respected I) (c : Config) (f : Nat) : Leaves I (arpBody c f) :=
  h.leaves_bind (h.leaves_bodyHead c f) fun _ =>
  h.leaves_bind (h.leaves_skip _) fun _ =>
  h.leaves_bind (h.leaves_readNumTlvs _) fun _ =>
  h.leaves_bind (h.leaves_skip _) fun _ =>
  h.leaves_bind (h.leaves_readAtm1 _) fun _ =>
  h.leaves_bind (h.leaves_skip _) fun _ => h.leaves_enter _

theorem Respected.leaves_verifyBody (h : Respected I) (f : Nat) : Leaves I (verifyBody f) :=
  h.leaves_bind (h.leaves_skip _) fun _ =>
  h.leaves_bind (h.leaves_readNumTlvs _) fun _ =>
  h.leaves_bind (h.leaves_skip _) fun _ =>
  h.leaves_bind (h.leaves_readAtm1 _) fun _ =>
  h.leaves_bind (h.leaves_skip _) fun _ => h.leaves_enter _

theorem Respected.leaves_flushBody (h : Respected I) (c : Config) (f : Nat) : Leaves I (flushBody c f) :=
  h.leaves_bind (h.leaves_bodyHead c f) fun _ =>
  h.leaves_bind (h.leaves_skip _) fun _ =>
  h.leaves_bind (h.leaves_readAtm1 _) fun _ =>
  h.leaves_bind (h.leaves_skip _) fun _ => h.leaves_finish

/-! LE Control (43). -/

theorem Respected.leaves_leOpening (h : Respected I) (c : Config) (f : Nat) (op : Half) : Leaves I (leOpening c f op) :=
  h.leaves_bind (h.leaves_readField _ _ _ _ _) fun _ =>
  h.leaves_bind (h.leaves_readField _ _ _ _ _) fun _ =>
  h.leaves_bind (h.leaves_readField _ _ _ _ _) fun _ =>
  h.leaves_bind (h.leaves_readField _ _ _ _ _) fun _ => h.leaves_pure _

theorem Respected.leaves_leStatus (h : Respected I) (f : Nat) (op : Half) : Leaves I (leStatus f op) :=
  h.leaves_bind (h.leaves_memRead _ _ _) fun _ =>
  leaves_ite (h.leaves_bind (h.leaves_putField _ _) fun _ => h.leaves_setCur _) (h.leaves_setCur _)

theorem Respected.flagBits (h : Respected I) (c : Config) (op : Half) (s : State) : I s (flagBits c op s) := by
  have hv2 : I s (flagV2 c op s) := by
    unfold flagV2
    split
    · exact h.trans _ _ _ (h.record s _) (h.setV _ _)
    · exact h.refl s
  refine h.trans _ _ _ hv2 ?_
  unfold Machine.flagBits flagRemote
  split
  · exact h.trans _ _ _ (h.record _ _) (h.setV _ _)
  · exact h.refl _

theorem Respected.leaves_leFields (h : Respected I) (c : Config) (f : Nat) (op : Half) : Leaves I (leFields c f op) :=
  h.leaves_bind (h.leaves_leStatus f op) fun _ =>
  h.leaves_bind (h.leaves_readField _ _ _ _ _) fun _ =>
  h.leaves_bind (h.leaves_readField _ _ _ _ _) fun _ =>
  h.leaves_bind (h.leaves_readField _ _ _ _ _) fun _ =>
  h.leaves_bind (leaves_put' (h.flagBits c op)) fun _ => h.leaves_setCur _

theorem Respected.leaves_leBody (h : Respected I) (c : Config) (f : Word) (op : Half) : Leaves I (leBody c f op) := by
  refine h.leaves_bind (h.leaves_putField _ _) fun _ => ?_
  unfold leEnter
  split
  · exact h.leaves_finish
  · exact h.leaves_finish
  all_goals exact h.leaves_enter _

theorem Respected.leaves_leControl (h : Respected I) (c : Config) (f : Word) (op : Half) :
    Leaves I (leControl c f op) :=
  h.leaves_bind (h.leaves_leOpening _ _ _) fun _ =>
  leaves_ite h.leaves_finish (h.leaves_bind (h.leaves_leFields _ _ _) fun _ => h.leaves_leBody _ _ _)

/-! Every row. -/

/-- What every update respects, every row respects, in a block of any parameters. -/
theorem Respected.leaves_rowIn (h : Respected I) (c : Config) (i : Instr) : Leaves I (rowIn c i) := by
  cases i with
  | jobCell => exact h.leaves_bind (h.leaves_jobEnter c) fun _ => h.leaves_cellPath c
  | jobPduTrunc => exact h.leaves_bind (h.leaves_jobEnter c) fun _ => h.leaves_pduTrunc
  | jobPduTail => exact fun s => h.leaves_bind (h.leaves_jobEnter c) (fun _ => h.leaves_pduTail c s.dl.l.toNat) s
  | jobPduCut => exact h.leaves_bind (h.leaves_jobEnter c) fun _ => fun s => h.leaves_enter _ s
  | pduSscop | pduLlc | pduIlmi | pduRaw | laneRaw => exact h.leaves_handOn _ _ _
  | pduLane => exact h.leaves_laneSplit _ _
  | laneLeControl => exact h.leaves_laneLe _ _
  | lane8023 | lane8025 | lane8023Mc | lane8025Mc => exact h.leaves_laneData _ _ _
  | hdrUnpack => exact h.leaves_decodeCellHeader c
  | ldDecode => exact h.leaves_lanDest _ _ _
  | tlvWalk => exact h.leaves_tlvWalkEnd _ _
  | cjBody => exact h.leaves_cjBody _ _
  | regBody => exact h.leaves_regBody _ _
  | arpBody => exact h.leaves_arpBody _ _
  | verifyBody => exact h.leaves_verifyBody _
  | flushBody => exact h.leaves_flushBody _ _
  | _ => exact h.leaves_leControl _ _ _

end Rows

/-! What the engine leaves alone (20_memory R60, R61). -/

theorem engineFrame_respected : Respected EngineFrame where
  refl _ := ⟨rfl, rfl, rfl, rfl, rfl, rfl, rfl, rfl⟩
  trans _ _ _ h k := ⟨k.buf.trans h.buf, k.desc.trans h.desc, k.dl.trans h.dl, k.irqEn.trans h.irqEn,
    k.port.trans h.port, k.rdata.trans h.rdata, k.bdata.trans h.bdata, k.freeCount.trans h.freeCount⟩
  record _ _ := ⟨rfl, rfl, rfl, rfl, rfl, rfl, rfl, rfl⟩
  setV _ _ := ⟨rfl, rfl, rfl, rfl, rfl, rfl, rfl, rfl⟩
  place _ _ _ _ := ⟨rfl, rfl, rfl, rfl, rfl, rfl, rfl, rfl⟩
  endJob _ := ⟨rfl, rfl, rfl, rfl, rfl, rfl, rfl, rfl⟩

/-- Taking the error a row raised leaves the same things alone as the row (60 R263). -/
theorem engineFrame_settle {m : Dec Unit} (hm : Leaves EngineFrame m) (s : State) : EngineFrame s (settle (m s)) := by
  have hs := hm s
  cases hr : m s with
  | ok a t => rwa [hr] at hs
  | error e t =>
    rw [hr] at hs
    exact engineFrame_respected.trans _ _ _ hs ⟨rfl, rfl, rfl, rfl, rfl, rfl, rfl, rfl⟩

end Sys2Proof.Proofs
end

section
/-! PROOFS. Selection: the row each unit of a running engine selects (30_encoding R84, R97, R98), and that a step runs it
(O50). -/

namespace Sys2Proof.Proofs

open Sys2Proof Sys2Proof.Machine Sys2Proof.Safety Sys2Proof.Laws

/-! The operand words read back. -/

@[simp] theorem leWord_bytes (w : Word) :
    leWord (w.setWidth 8) (BitVec.ofNat 8 (w.toNat / 256)) (BitVec.ofNat 8 (w.toNat / 256 / 256))
      (BitVec.ofNat 8 (w.toNat / 256 / 256 / 256)) = w := by
  apply BitVec.eq_of_toNat_eq
  simp only [leWord, leNat, BitVec.toNat_ofNat, BitVec.toNat_setWidth]
  have := w.isLt
  omega

theorem selectJob_wf (c : Config) (aal : BitVec 8) (t : Bool) (l rl : Word) :
    (selectJob c aal t l rl).wfIn c = true := by
  unfold selectJob
  split_ifs <;> rfl

theorem decodeIn_jobBytes (c : Config) (cls flags l rl : Word) :
    decodeIn c .job (jobBytes cls flags l rl) = .ok (selectJob c (cls.setWidth 8) (flags.getLsbD 0) l rl) := by
  simp [decodeIn, jobBytes, wordBytes, leBytes, checked, selectJob_wf]

theorem decodeIn_pduBytes {c : Config} {aal tt : BitVec 8} (st : BitVec 8) {po pl : Word} {i : Instr}
    (hi : selectPdu c aal tt po pl = some i) : decodeIn c .pduDispatch (sliceBytes aal tt st po pl) = checked c i := by
  simp [decodeIn, sliceBytes, wordBytes, leBytes, hi]

theorem decodeIn_laneBytes {c : Config} {aal tt st : BitVec 8} {po pl : Word} {i : Instr}
    (hi : selectLane c aal tt st po pl = some i) :
    decodeIn c .laneSubtype (sliceBytes aal tt st po pl) = checked c i := by
  simp [decodeIn, sliceBytes, wordBytes, leBytes, hi]

theorem decodeIn_opcodeAt (c : Config) (m : Memory) (f : Nat) (w : Word) :
    decodeIn c .lecOpcode (opcodeAt m f ++ wordBytes w) =
      checked c (selectOpcode c (Memory.read m (f + 4) ++ Memory.read m (f + 5)) w) := by
  simp [decodeIn, opcodeAt, Memory.bytes, wordBytes, leBytes]

theorem decodeIn_bodyBytes {c : Config} {code : BitVec 8} {f : Word} {i : Instr} (hi : selectBody code f = some i) :
    decodeIn c .lecBody (bodyBytes code f) = checked c i := by
  simp [decodeIn, bodyBytes, wordBytes, leBytes, hi]

theorem decodeIn_tlvBytes (c : Config) (o : Word) (n : BitVec 8) :
    decodeIn c .tlv (wordBytes o ++ [n]) = checked c (.tlvWalk o n) := by
  simp [decodeIn, wordBytes, leBytes]

/-! What each unit selects. -/

theorem fetchRow_ok {c : Config} {fmt : Format} {bs : List Byte} {i : Instr} (h : decodeIn c fmt bs = .ok i) :
    fetchRow c fmt bs = .row i := by simp [fetchRow, h]

theorem fetchRow_checked {c : Config} {fmt : Format} {bs : List Byte} {i : Instr} (h : decodeIn c fmt bs = checked c i)
    (hwf : i.wfIn c = true) : fetchRow c fmt bs = .row i := fetchRow_ok (h.trans (if_pos hwf))

section Units

variable {c : Config} {s : State}

/-- A job's row by its kind, whatever the latch holds (30 R84). -/
theorem fetchIn_job (h : s.unit = .job) :
    fetchIn c s = .row (selectJob c s.dl.aal s.dl.truncated s.dl.l s.dl.rl) := by
  have haal : s.dl.cls.setWidth 8 = s.dl.aal := (BitVec.setWidth_append (y := s.dl.aal)).trans (by simp)
  have hflag : (latchFlags s.dl).getLsbD 0 = s.dl.truncated := by
    unfold latchFlags
    cases s.dl.truncated <;> rfl
  simp only [fetchIn, h]
  exact fetchRow_ok (by rw [decodeIn_jobBytes, haal, hflag])

theorem fetchIn_pdu {po pl : Word} {i : Instr} (h : s.unit = .pdu po pl)
    (hi : selectPdu c s.dl.aal s.dl.trafType po pl = some i) (hwf : i.wfIn c = true) : fetchIn c s = .row i := by
  simp only [fetchIn, h]
  exact fetchRow_checked (decodeIn_pduBytes _ hi) hwf

theorem fetchIn_lane {po pl : Word} {i : Instr} (h : s.unit = .lane po pl)
    (hi : selectLane c s.dl.aal s.dl.trafType s.dl.trafSubtype po pl = some i) (hwf : i.wfIn c = true) :
    fetchIn c s = .row i := by
  simp only [fetchIn, h]
  exact fetchRow_checked (decodeIn_laneBytes hi) hwf

theorem fetchIn_lec {f : Word} (h : s.unit = .lec f) (hf : f.toNat + 6 ≤ s.lim)
    (hwf : (selectOpcode c (byteAt s (f.toNat + 4) ++ byteAt s (f.toNat + 5)) f).wfIn c = true) :
    fetchIn c s = .row (selectOpcode c (byteAt s (f.toNat + 4) ++ byteAt s (f.toNat + 5)) f) := by
  simp only [fetchIn, h, fetchOpcode, if_pos hf]
  exact fetchRow_checked (decodeIn_opcodeAt _ _ _ _) hwf

theorem fetchIn_lec_short {f : Word} (h : s.unit = .lec f) (hf : s.lim < f.toNat + 6) :
    fetchIn c s = .shortFrame f := by
  simp only [fetchIn, h, fetchOpcode, if_neg (Nat.not_le.mpr hf)]

theorem fetchIn_body {f : Word} {i : Instr} (h : s.unit = .body f) (hn : s.r.body ≠ .none)
    (ht : s.r.body ≠ .topology) (hi : selectBody (s.r.body.code.setWidth 8) f = some i) (hwf : i.wfIn c = true) :
    fetchIn c s = .row i := by
  have hrow : fetchRow c .lecBody (bodyBytes (s.r.body.code.setWidth 8) f) = .row i :=
    fetchRow_checked (decodeIn_bodyBytes hi) hwf
  simp only [fetchIn, h, fetchBody]
  split
  · exact absurd ‹_› hn
  · exact absurd ‹_› ht
  all_goals exact hrow

theorem fetchIn_tlv {o : Word} {n : BitVec 8} (h : s.unit = .tlv o n) (hwf : runOk c o = true) :
    fetchIn c s = .row (.tlvWalk o n) := by
  simp only [fetchIn, h]
  exact fetchRow_checked (decodeIn_tlvBytes _ _ _) hwf

/-! A step runs the row selected. -/

/-- The engine's turn while BUSY is its selected row. -/
theorem engineTurn_row {run : Instr → State → Host.Outcome State Fault Refusal} {i : Instr} (hb : s.phase = .busy)
    (hf : fetchIn c s = .row i) : engineTurn c run s = run i s :=
  (engineTurn_busy c run hb).trans (engineStep_row c run hf)

/-- With nothing pending, an IDLE engine's step changes nothing (70 R281). -/
theorem step_idle (hp : s.port = []) (hi : s.phase = .idle) : step s = .next s :=
  (stepOf_nil _ _ hp).trans (engineTurn_idle _ _ hi)

/-- With nothing pending, a BUSY engine's step is its own (log entry 3). -/
theorem step_busy (hp : s.port = []) (hb : s.phase = .busy) : step s = engineStep Config.aldb exec s :=
  (stepOf_nil _ _ hp).trans (engineTurn_busy _ _ hb)

end Units

/-- Settles O50: each clause is the step's case for that port, then the engine's turn on its selected row. -/
theorem stepRunsSelectedRow : Obligations.StepRunsSelectedRow := by
  refine ⟨fun s i hb hf => ⟨fun hp => ?nothing, fun rest hp => ?tick, fun rest hp hd => ?wait⟩,
    fun s => step_idle, fun c s i hb hf hp => ?anyBlock, fun i s => ⟨exec_eq_execIn i s, rfl, step_eq_stepIn s⟩⟩
  case nothing => exact (stepOf_nil _ _ hp).trans (engineTurn_row hb hf)
  case tick =>
    have hf' : fetchIn Config.aldb { s with port := rest } = .row i := hf
    exact (stepOf_tick _ _ hp).trans (engineTurn_row hb hf')
  case wait =>
    have hturn : step s = engineTurn Config.aldb exec s := by simp [step, stepOf_wait _ _ hp, hd]
    exact hturn.trans (engineTurn_row hb hf)
  case anyBlock => exact (stepOf_nil _ _ hp).trans (engineTurn_row hb hf)

end Sys2Proof.Proofs
end

section
/-! PROOFS. Termination: every unit of a running engine selects a row, and each row ends the job or hands it to a later
unit, so that at most six rows run (O57; 30_encoding R104, 60 R266). -/

namespace Sys2Proof.Proofs

open Sys2Proof Sys2Proof.Machine Sys2Proof.Safety Sys2Proof.Laws

/-! What a decode step leaves when it raises no error. -/

/-- `Q` holds of a decode step's value and state, unless the step raises. -/
def OnReturn {α : Type} (Q : α → State → Prop) (m : Dec α) (s : State) : Prop := ∀ a t, m s = .ok a t → Q a t

section OnReturn

variable {α β : Type} {Q : α → State → Prop} {s : State}

@[simp] theorem onReturn_bind {P : β → State → Prop} (m : Dec α) (g : α → Dec β) :
    OnReturn P (m >>= g) s ↔ OnReturn (fun a t => OnReturn P (g a) t) m s := by
  unfold OnReturn
  rw [dec_bind]
  cases m s <;> simp

@[simp] theorem onReturn_ite {p : Prop} [Decidable p] (m m' : Dec α) :
    OnReturn Q (if p then m else m') s ↔ (p → OnReturn Q m s) ∧ (¬ p → OnReturn Q m' s) := by
  split <;> simp [*]

theorem onReturn_congr {m m' : Dec α} (h : m s = m' s) : OnReturn Q m s ↔ OnReturn Q m' s := by simp [OnReturn, h]

theorem onReturn_of_ok {m : Dec α} {a : α} {t : State} (h : m s = .ok a t) : OnReturn Q m s ↔ Q a t := by
  simp [OnReturn, h]

/-- A step that goes on under a condition, and raises otherwise. -/
theorem onReturn_of_eq_ite {m : Dec α} {p : Prop} [Decidable p] {a : α} {t t' : State} {e : JobError}
    (h : m s = if p then .ok a t else .error e t') : OnReturn Q m s ↔ (p → Q a t) := by
  unfold OnReturn
  rw [h]
  split <;> simp [*]

@[simp] theorem onReturn_pure (a : α) : OnReturn Q (pure a : Dec α) s ↔ Q a s := onReturn_of_ok rfl

@[simp] theorem onReturn_memRead {Q : Nat → State → Prop} (u : ErrUnit) (o n : Nat) :
    OnReturn Q (memRead u o n) s ↔ (o + n ≤ s.lim → Q (beNat (Memory.bytes s.buf o n)) s) :=
  onReturn_of_eq_ite (memRead_eq u o n s)

@[simp] theorem onReturn_readField {Q : Nat → State → Prop} (u : ErrUnit) (o n : Nat) (b : VBit)
    (g : Nat → Record → Record) :
    OnReturn Q (readField u o n b g) s ↔ (o + n ≤ s.lim →
      Q (beNat (Memory.bytes s.buf o n))
        { s with r := g (beNat (Memory.bytes s.buf o n)) s.r, valid := s.valid ||| b.mask, cur := o + n }) :=
  onReturn_of_eq_ite (readField_eq u o n b g s)

end OnReturn

section Units

variable {Q : Unit → State → Prop} {s : State}

@[simp] theorem onReturn_put' (g : State → State) : OnReturn Q (put' g) s ↔ Q () (g s) := onReturn_of_ok rfl

@[simp] theorem onReturn_setCur (o : Nat) : OnReturn Q (setCur o) s ↔ Q () { s with cur := o } := onReturn_of_ok rfl

@[simp] theorem onReturn_skip (n : Nat) : OnReturn Q (skip n) s ↔ Q () { s with cur := s.cur + n } :=
  onReturn_of_ok rfl

@[simp] theorem onReturn_enter (u : EngineUnit) : OnReturn Q (enter u) s ↔ Q () { s with unit := u } :=
  onReturn_of_ok rfl

@[simp] theorem onReturn_finish : OnReturn Q finish s ↔ Q () s.endJob := onReturn_of_ok rfl

@[simp] theorem onReturn_putField (g : Record → Record) (b : VBit) :
    OnReturn Q (putField g b) s ↔ Q () { s with r := g s.r, valid := s.valid ||| b.mask } := onReturn_of_ok rfl

@[simp] theorem onReturn_readAtm1 (o : Nat) :
    OnReturn Q (readAtm1 o) s ↔ (o + 20 ≤ s.lim → Q () { s with
      r := { s.r with atm1 := packAtm (Memory.bytes s.buf o 20) }, valid := s.valid ||| 0x100000#32, cur := o + 20 }) :=
  onReturn_of_eq_ite (readAtm1_eq o s)

@[simp] theorem onReturn_jobEnter (c : Config) :
    OnReturn Q (jobEnter c) s ↔ (s.dl.l.toNat ≤ c.bufCap → Q () { s with lim := s.dl.l.toNat, cur := 0 }) :=
  onReturn_of_eq_ite (e := ⟨.badDescriptor, .job, 0⟩) (t' := s) (by rw [jobEnter_eq, ← ite_not]; simp only [Nat.not_lt])

@[simp] theorem onReturn_leStatus (f : Nat) (op : Half) :
    OnReturn Q (leStatus f op) s ↔ (f + 6 + 2 ≤ s.lim → Q () { s with
      r := if isResponse op then { s.r with status := BitVec.ofNat 16 (beNat (Memory.bytes s.buf (f + 6) 2)) } else s.r
      valid := if isResponse op then s.valid ||| 0x400#32 else s.valid
      cur := f + 8 }) := onReturn_of_eq_ite (leStatus_eq f op s)

@[simp] theorem onReturn_readNumTlvs {Q : Nat → State → Prop} (o : Nat) :
    OnReturn Q (readNumTlvs o) s ↔ (o + 1 ≤ s.lim → Q (Memory.read s.buf o).toNat
      { s with r := { s.r with numTlvs := Memory.read s.buf o }, valid := s.valid ||| 0x800000#32, cur := o + 1 }) :=
  onReturn_of_eq_ite (readNumTlvs_eq o s)

/-! Where a step's results do not matter, only the engine's place after it: each of these writes the record and its
valid bits alone. -/

theorem onReturn_lanDest {c : Config} {d i : Nat} (h : ∀ r v, Q () { s with r := r, valid := v, cur := d + 8 }) :
    OnReturn Q (lanDest c d i) s := by
  simp [lanDest, ldForm, ldWrite, h]

theorem onReturn_bodyHead {c : Config} {f : Nat} (h : ∀ r v, Q () { s with r := r, valid := v, cur := f + 52 }) :
    OnReturn Q (bodyHead c f) s := by
  simp only [bodyHead, onReturn_bind]
  exact onReturn_lanDest fun _ _ => onReturn_lanDest fun _ _ =>
    (onReturn_of_eq_ite (readAtm0_eq _ _)).mpr fun _ => h _ _

theorem onReturn_cjMiddle {Q : Nat → State → Prop} {c : Config} {f : Nat}
    (h : f + 76 ≤ s.lim → ∀ n r v, Q n { s with r := r, valid := v, cur := f + 76 }) : OnReturn Q (cjMiddle c f) s := by
  unfold cjMiddle
  split <;> simp only [cjScalars, onReturn_bind, onReturn_readAtm1, onReturn_readField, onReturn_readNumTlvs,
    onReturn_pure]
  · exact fun _ _ _ _ hl => h hl _ _ _
  · exact fun _ _ _ _ hl => h hl _ _ _

theorem onReturn_elanName {c : Config} {o : Nat}
    (h : ∀ r v, Q () { s with r := r, valid := v, cur := o + c.elanNameMax }) : OnReturn Q (elanName c o) s := by
  simp only [elanName, onReturn_bind, onReturn_putField, onReturn_setCur]
  intro _ t ht
  rw [readName_eq] at ht
  split_ifs at ht <;> cases ht <;> exact h _ _

end Units

/-- The metadata trailer writes the record and its valid bits alone (42 R151). -/
theorem metaTrailer_eq (s : State) : ∃ r v, metaTrailer s = { s with r := r, valid := v } := by
  unfold metaTrailer
  split
  · exact ⟨s.r, s.valid, rfl⟩
  · exact ⟨_, _, rfl⟩

/-- The inferred cell count writes the record and its valid bits alone (42 R159). -/
theorem inferCells_eq (c : Config) (s : State) :
    ∃ r v, inferCells c s = { s with r := r, valid := v } := by
  unfold inferCells
  split
  · exact ⟨_, _, rfl⟩
  · exact ⟨s.r, s.valid, rfl⟩

theorem onReturn_tailFits {Q : Unit → State → Prop} {s : State} (h : Q () s) : OnReturn Q tailFits s := by
  intro _ t ht
  unfold tailFits at ht
  split_ifs at ht <;> cases ht
  exact h

theorem onReturn_tailTrailer {Q : Unit → State → Prop} {s : State} {l : Nat}
    (h : ∀ r v, Q () { s with r := r, valid := v }) : OnReturn Q (tailTrailer l) s := by
  simp [tailTrailer, h]

/-- Past the length check, LEN fits below the trailer (42 R154). -/
theorem onReturn_tailLength {Q : Unit → State → Prop} {s : State} {l : Nat}
    (h : s.r.len.toNat ≤ l - 8 → ∀ r v, r.len = s.r.len → Q () { s with r := r, valid := v }) :
    OnReturn Q (tailLength l) s := by
  intro _ t ht
  unfold tailLength at ht
  split_ifs at ht with hlong hpad
  · cases ht
  · cases ht
    exact h (by omega) _ _ rfl
  · cases ht
    exact h (by omega) _ _ rfl

/-! The call chain of a job. -/

/-- How many rows the engine has before it at most, by the unit it is about to enter. -/
def rowsLeft : EngineUnit → Nat
  | .job => 6
  | .pdu _ _ => 5
  | .lane _ _ => 4
  | .lec _ => 3
  | .body _ => 2
  | .tlv _ _ => 1

/-- A job in progress: what the machine's invariant says of its read limit and of the unit about to run. -/
structure Running (s : State) : Prop where
  busy : s.phase = .busy
  lim : s.lim ≤ 65568
  unit : unitOk s

/-- The job has ended, or goes on with fewer than `n` rows left. -/
def HandsOn (n : Nat) (t : State) : Prop :=
  (t.phase = .idle ∧ t.done = true) ∨ (Running t ∧ rowsLeft t.unit < n)

theorem handsOn_pdu {t : State} {pl : Word} (hu : t.unit = .pdu 0 pl) (hb : t.phase = .busy) (hl : t.lim ≤ 65568)
    (hc : pduClass t.dl) (hpl : pl.toNat ≤ t.lim) : HandsOn 6 t :=
  .inr ⟨⟨hb, hl, by simp [unitOk, hu, hc, hpl]⟩, by simp [hu, rowsLeft]⟩

theorem handsOn_lane {t : State} {pl : Word} (hu : t.unit = .lane 0 pl) (hb : t.phase = .busy) (hl : t.lim ≤ 65568)
    (haal : t.dl.aal = 4) (htt : t.dl.trafType = 3) (hpl : t.lim = pl.toNat) : HandsOn 5 t :=
  .inr ⟨⟨hb, hl, by simp [unitOk, hu, haal, htt, hpl]⟩, by simp [hu, rowsLeft]⟩

theorem handsOn_lec {t : State} (hu : t.unit = .lec 0) (hb : t.phase = .busy) (hl : t.lim ≤ 65568) : HandsOn 4 t :=
  .inr ⟨⟨hb, hl, by simp [unitOk, hu]⟩, by simp [hu, rowsLeft]⟩

theorem handsOn_body {t : State} (hu : t.unit = .body 0) (hb : t.phase = .busy) (hl : t.lim ≤ 65568)
    (hlim : 16 ≤ t.lim) (hcur : t.cur = 16) (hn : t.r.body ≠ .none) (ht : t.r.body ≠ .topology) : HandsOn 3 t :=
  .inr ⟨⟨hb, hl, by simp [unitOk, hu, hlim, hcur, hn, ht]⟩, by simp [hu, rowsLeft]⟩

theorem handsOn_tlv {t : State} {n : BitVec 8} (hu : t.unit = .tlv 108 n) (hb : t.phase = .busy) (hl : t.lim ≤ 65568)
    (hlim : 55 ≤ t.lim) : HandsOn 2 t :=
  .inr ⟨⟨hb, hl, by simp [unitOk, hu, hlim]⟩, by simp [hu, rowsLeft]⟩

/-! What each row hands on. -/

section Rows

variable {s : State} {n : Nat}

theorem handsOn_finish : OnReturn (fun _ => HandsOn n) finish s := onReturn_finish.mpr (.inl ⟨rfl, rfl⟩)

/-- Whatever went before, what the rest of a row hands on from every state, the row hands on. -/
theorem handsOn_bind {α : Type} {m : Dec α} {g : α → Dec Unit} (h : ∀ a t, OnReturn (fun _ => HandsOn n) (g a) t) :
    OnReturn (fun _ => HandsOn n) (m >>= g) s := (onReturn_bind _ _).mpr fun a t _ => h a t

theorem handsOn_handOn (t : Target) (po pl : Nat) : OnReturn (fun _ => HandsOn n) (handOn t po pl) s :=
  handsOn_bind fun _ _ => handsOn_finish

theorem handsOn_laneData (t : Target) (po pl : Nat) : OnReturn (fun _ => HandsOn n) (laneData t po pl) s :=
  handsOn_bind fun _ _ => handsOn_bind fun _ _ => handsOn_finish

theorem handsOn_jobCell (c : Config) : OnReturn (fun _ => HandsOn n) (jobCell c) s :=
  handsOn_bind fun _ _ => handsOn_bind fun _ _ => handsOn_bind fun _ _ => handsOn_finish

theorem handsOn_jobPduTrunc (hb : s.phase = .busy) (hc : pduClass s.dl) :
    OnReturn (fun _ => HandsOn 6) (jobPduTrunc Config.aldb) s := by
  simp only [jobPduTrunc, onReturn_bind, onReturn_jobEnter]
  intro hcap
  obtain ⟨r, v, hmeta⟩ := metaTrailer_eq { s with lim := s.dl.l.toNat, cur := 0 }
  refine (onReturn_of_ok (enter_apply _ _)).mpr ?_
  rw [hmeta]
  exact handsOn_pdu rfl hb hcap hc le_rfl

theorem handsOn_jobPduTail (hb : s.phase = .busy) (hc : pduClass s.dl) :
    OnReturn (fun _ => HandsOn 6) (jobPduTail Config.aldb) s := by
  refine (onReturn_congr (m' := jobEnter Config.aldb >>= fun _ => pduTail Config.aldb s.dl.l.toNat) rfl).mpr ?_
  simp only [pduTail, onReturn_bind, onReturn_jobEnter, onReturn_put']
  refine fun hcap => onReturn_tailFits (onReturn_tailTrailer fun r v => ?_)
  obtain ⟨r', v', hcells⟩ := inferCells_eq Config.aldb
    { s with lim := s.dl.l.toNat, cur := 0, r := r, valid := v }
  rw [hcells]
  refine onReturn_tailLength fun hlen r'' v'' hr => (onReturn_of_ok (enter_apply _ _)).mpr ?_
  have hpl : (r''.len.setWidth 32).toNat ≤ s.dl.l.toNat := by
    rw [hr, BitVec.toNat_setWidth_of_le (by decide)]
    exact hlen.trans (Nat.sub_le _ _)
  exact handsOn_pdu rfl hb hcap hc hpl

theorem handsOn_jobPduCut (hb : s.phase = .busy) (hc : pduClass s.dl) :
    OnReturn (fun _ => HandsOn 6) (jobPduCut Config.aldb) s := by
  simp only [jobPduCut, onReturn_bind, onReturn_jobEnter]
  exact fun hcap => (onReturn_of_ok (enter_apply _ _)).mpr (handsOn_pdu rfl hb hcap hc le_rfl)

theorem handsOn_laneSplit {pl : Word} (hb : s.phase = .busy) (haal : s.dl.aal = 4) (htt : s.dl.trafType = 3)
    (hpl : pl.toNat ≤ 65568) : OnReturn (fun _ => HandsOn 5) (laneSplit 0 pl) s := by
  simp only [laneSplit, onReturn_bind, onReturn_put', onReturn_enter]
  exact handsOn_lane rfl hb (by simpa) haal htt (by simp)

theorem handsOn_laneLe (pl : Word) (hb : s.phase = .busy) (hl : s.lim ≤ 65568) :
    OnReturn (fun _ => HandsOn 4) (laneLe 0 pl) s := by
  simp only [laneLe, dispatch, onReturn_bind, onReturn_putField, onReturn_enter]
  exact handsOn_lec rfl hb hl

theorem handsOn_leControl (c : Config) (op : Half) (hb : s.phase = .busy) (hl : s.lim ≤ 65568) :
    OnReturn (fun _ => HandsOn 3) (leControl c 0 op) s := by
  simp only [leControl, leOpening, leFields, leBody, onReturn_bind, onReturn_readField, onReturn_pure, onReturn_ite,
    onReturn_leStatus, onReturn_put', onReturn_setCur, onReturn_putField]
  refine fun _ _ _ _ => ⟨fun _ => handsOn_finish, fun _ _ _ _ hlim => ?_⟩
  obtain ⟨r, v, hflags⟩ := flagBits_eq c op _
  rw [hflags]
  have hlast : 16 ≤ s.lim := hlim
  cases hk : bodyKind c op with
  | none | topology => exact handsOn_finish
  | configureJoin | registration | arp | verify | flush =>
    exact (onReturn_enter _).mpr (handsOn_body rfl hb hl hlast rfl nofun nofun)

theorem handsOn_cjBody (c : Config) (hb : s.phase = .busy) (hl : s.lim ≤ 65568) :
    OnReturn (fun _ => HandsOn 2) (cjBody c 0) s := by
  simp only [cjBody, enterTlvs, onReturn_bind, onReturn_setCur, onReturn_enter]
  exact onReturn_bodyHead fun _ _ => onReturn_cjMiddle fun hlim _ _ _ => onReturn_elanName fun _ _ =>
    handsOn_tlv rfl hb hl (le_trans (by decide : 55 ≤ 0 + 76) hlim)

theorem handsOn_regBody (c : Config) (hb : s.phase = .busy) (hl : s.lim ≤ 65568) :
    OnReturn (fun _ => HandsOn 2) (regBody c 0) s := by
  simp only [regBody, enterTlvs, onReturn_bind, onReturn_skip, onReturn_readNumTlvs, onReturn_enter]
  exact onReturn_bodyHead fun _ _ hlim => handsOn_tlv rfl hb hl hlim

theorem handsOn_arpBody (c : Config) (hb : s.phase = .busy) (hl : s.lim ≤ 65568) :
    OnReturn (fun _ => HandsOn 2) (arpBody c 0) s := by
  simp only [arpBody, enterTlvs, onReturn_bind, onReturn_skip, onReturn_readNumTlvs, onReturn_readAtm1, onReturn_enter]
  exact onReturn_bodyHead fun _ _ hlim _ => handsOn_tlv rfl hb hl hlim

theorem handsOn_verifyBody (hb : s.phase = .busy) (hl : s.lim ≤ 65568) :
    OnReturn (fun _ => HandsOn 2) (verifyBody 0) s := by
  simp only [verifyBody, enterTlvs, onReturn_bind, onReturn_skip, onReturn_readNumTlvs, onReturn_readAtm1,
    onReturn_enter]
  exact fun hlim _ => handsOn_tlv rfl hb hl hlim

theorem handsOn_flushBody (c : Config) (f : Nat) : OnReturn (fun _ => HandsOn n) (flushBody c f) s :=
  handsOn_bind fun _ _ => handsOn_bind fun _ _ => handsOn_bind fun _ _ => handsOn_bind fun _ _ => handsOn_finish

theorem handsOn_tlvWalkEnd (o k : Nat) : OnReturn (fun _ => HandsOn n) (tlvWalkEnd o k) s :=
  handsOn_bind fun _ _ => handsOn_finish

end Rows

/-! Every unit selects a row, which hands on. -/

/-- One step of the machine, which leaves the engine's frame alone and hands on. -/
def StepHandsOn (n : Nat) (s : State) : Prop := ∃ t, step s = .next t ∧ EngineFrame s t ∧ HandsOn n t

section Steps

variable {s : State} {n : Nat}

/-- An error ends the job (60 R263), so a row that hands on when it raises none always does. -/
theorem handsOn_settle {m : Dec Unit} (h : OnReturn (fun _ => HandsOn n) m s) : HandsOn n (settle (m s)) := by
  cases hr : m s with
  | ok a t => exact h a t hr
  | error e t => exact .inl ⟨rfl, rfl⟩

theorem stepHandsOn_of_runRow {m : Dec Unit} (hstep : step s = runRow m s) (hf : Leaves EngineFrame m)
    (h : OnReturn (fun _ => HandsOn n) m s) : StepHandsOn n s :=
  ⟨settle (m s), hstep, engineFrame_settle hf s, handsOn_settle h⟩

theorem stepHandsOn_of_row {i : Instr} (hp : s.port = []) (hb : s.phase = .busy) (hf : fetchIn Config.aldb s = .row i)
    (h : OnReturn (fun _ => HandsOn n) (rowIn Config.aldb i) s) : StepHandsOn n s := by
  have hstep : step s = exec i s := (step_busy hp hb).trans (engineStep_row _ _ hf)
  exact stepHandsOn_of_runRow (hstep.trans (exec_eq_execIn i s)) (engineFrame_respected.leaves_rowIn _ i) h

theorem job_stepHandsOn (hp : s.port = []) (hb : s.phase = .busy) (hu : s.unit = .job) : StepHandsOn 6 s := by
  refine stepHandsOn_of_row hp hb (fetchIn_job hu) ?_
  unfold selectJob
  split_ifs with hc
  · exact handsOn_jobPduTrunc hb hc
  · exact handsOn_jobPduTail hb hc
  · exact handsOn_jobPduCut hb hc
  · exact handsOn_jobCell _

theorem pdu_stepHandsOn {pl : Word} (hp : s.port = []) (hb : s.phase = .busy) (hu : s.unit = .pdu 0 pl)
    (hc : pduClass s.dl) (hpl : pl.toNat ≤ 65568) : StepHandsOn 5 s := by
  have hslice : sliceOk Config.aldb 0#32 pl = true := by simp [sliceOk, hpl]
  have hrow : ∀ i, selectPdu Config.aldb s.dl.aal s.dl.trafType 0 pl = some i → i.wfIn Config.aldb = true →
      OnReturn (fun _ => HandsOn 5) (rowIn Config.aldb i) s → StepHandsOn 5 s :=
    fun i hi hwf h => stepHandsOn_of_row hp hb (fetchIn_pdu hu hi hwf) h
  rcases hc with haal | haal
  · by_cases hllc : s.dl.trafType = 1#8
    · exact hrow (.pduLlc 0 pl) (by simp [selectPdu, haal, hllc]) hslice (handsOn_handOn _ _ _)
    by_cases hlane : s.dl.trafType = 3#8
    · exact hrow (.pduLane 0 pl) (by simp [selectPdu, haal, hlane]) hslice (handsOn_laneSplit hb haal hlane hpl)
    by_cases hilmi : s.dl.trafType = 4#8
    · exact hrow (.pduIlmi 0 pl) (by simp [selectPdu, haal, hilmi]) hslice (handsOn_handOn _ _ _)
    · exact hrow (.pduRaw s.dl.trafType 0 pl) (by simp [selectPdu, haal, hllc, hlane, hilmi])
        (by simp [Instr.wfIn, rawTypeOk, hllc, hlane, hilmi, hslice]) (handsOn_handOn _ _ _)
  · exact hrow (.pduSscop 0 pl) (by simp [selectPdu, haal]) hslice (handsOn_handOn _ _ _)

theorem lane_stepHandsOn {pl : Word} (hp : s.port = []) (hb : s.phase = .busy) (hu : s.unit = .lane 0 pl)
    (haal : s.dl.aal = 4) (htt : s.dl.trafType = 3) (hpl : s.lim = pl.toNat) (hl : s.lim ≤ 65568) :
    StepHandsOn 4 s := by
  have hslice : sliceOk Config.aldb 0#32 pl = true := by simp [sliceOk, ← hpl, hl]
  have hrow : ∀ i, selectLane Config.aldb s.dl.aal s.dl.trafType s.dl.trafSubtype 0 pl = some i →
      i.wfIn Config.aldb = true → OnReturn (fun _ => HandsOn 4) (rowIn Config.aldb i) s → StepHandsOn 4 s :=
    fun i hi hwf h => stepHandsOn_of_row hp hb (fetchIn_lane hu hi hwf) h
  by_cases h1 : s.dl.trafSubtype = 1#8
  · exact hrow (.laneLeControl 0 pl) (by simp [selectLane, haal, htt, h1]) hslice (handsOn_laneLe pl hb hl)
  by_cases h2 : s.dl.trafSubtype = 2#8
  · exact hrow (.lane8023 0 pl) (by simp [selectLane, haal, htt, h2]) hslice (handsOn_laneData _ _ _)
  by_cases h3 : s.dl.trafSubtype = 3#8
  · exact hrow (.lane8025 0 pl) (by simp [selectLane, haal, htt, h3]) hslice (handsOn_laneData _ _ _)
  by_cases h4 : s.dl.trafSubtype = 4#8
  · exact hrow (.lane8023Mc 0 pl) (by simp [selectLane, haal, htt, h4]) hslice (handsOn_laneData _ _ _)
  by_cases h5 : s.dl.trafSubtype = 5#8
  · exact hrow (.lane8025Mc 0 pl) (by simp [selectLane, haal, htt, h5]) hslice (handsOn_laneData _ _ _)
  · exact hrow (.laneRaw s.dl.trafSubtype 0 pl) (by simp [selectLane, haal, htt, h1, h2, h3, h4, h5])
      (by simp [Instr.wfIn, rawSubtypeOk, h1, h2, h3, h4, h5, hslice]) (handsOn_handOn _ _ _)

/-- Every opcode's row is `le_control(F)` for some opcode (43 R170). -/
theorem rowIn_selectOpcode (c : Config) (op : Half) (f : Word) :
    ∃ op', rowIn c (selectOpcode c op f) = leControl c f op' := by
  unfold selectOpcode
  split <;> exact ⟨_, rfl⟩

/-- An opcode that no class names is not one of R97's values. -/
theorem selectOpcode_wf {op : Half} {f : Word} (hf : f.toNat ≤ 65568) :
    (selectOpcode Config.aldb op f).wfIn Config.aldb = true := by
  have hoff : offsetOk Config.aldb f = true := decide_eq_true hf
  cases hk : opcodeIndex Config.aldb op with
  | none =>
    have hnot : unknownOpcodeOk Config.aldb op = true := by
      simpa [unknownOpcodeOk] using fun hmem => absurd (List.findIdx?_eq_none_iff.mp hk op hmem) (by simp)
    simp [selectOpcode, hk, Instr.wfIn, hnot, hoff]
  | some k =>
    have hlt : k < 18 := (List.findIdx?_eq_some_iff_getElem.mp hk).1
    interval_cases k <;> simp [selectOpcode, hk, Instr.wfIn, hoff]

theorem lec_stepHandsOn (hp : s.port = []) (hb : s.phase = .busy) (hu : s.unit = .lec 0) (hl : s.lim ≤ 65568) :
    StepHandsOn 3 s := by
  by_cases hlim : 6 ≤ s.lim
  · have hf := fetchIn_lec (c := Config.aldb) hu (by simpa using hlim) (selectOpcode_wf (by decide))
    obtain ⟨op, hop⟩ := rowIn_selectOpcode Config.aldb (byteAt s (0 + 4) ++ byteAt s (0 + 5)) 0
    exact stepHandsOn_of_row hp hb hf (hop ▸ handsOn_leControl _ _ hb hl)
  · have hf := fetchIn_lec_short (c := Config.aldb) hu (by simpa using hlim)
    refine stepHandsOn_of_runRow ((step_busy hp hb).trans (engineStep_shortFrame _ _ hf))
      (engineFrame_respected.leaves_leOpening _ _ _) ?_
    simp only [leShort, leOpening, onReturn_bind, onReturn_readField, onReturn_pure]
    exact fun _ _ _ hopcode => absurd hopcode hlim

theorem body_stepHandsOn (hp : s.port = []) (hb : s.phase = .busy) (hu : s.unit = .body 0) (hl : s.lim ≤ 65568)
    (hn : s.r.body ≠ .none) (ht : s.r.body ≠ .topology) : StepHandsOn 2 s := by
  have hrow : ∀ i, selectBody (s.r.body.code.setWidth 8) 0 = some i → i.wfIn Config.aldb = true →
      OnReturn (fun _ => HandsOn 2) (rowIn Config.aldb i) s → StepHandsOn 2 s :=
    fun i hi hwf h => stepHandsOn_of_row hp hb (fetchIn_body hu hn ht hi hwf) h
  cases hk : s.r.body with
  | none => exact absurd hk hn
  | topology => exact absurd hk ht
  | configureJoin => exact hrow (.cjBody 0) (by rw [hk]; rfl) rfl (handsOn_cjBody _ hb hl)
  | registration => exact hrow (.regBody 0) (by rw [hk]; rfl) rfl (handsOn_regBody _ hb hl)
  | arp => exact hrow (.arpBody 0) (by rw [hk]; rfl) rfl (handsOn_arpBody _ hb hl)
  | verify => exact hrow (.verifyBody 0) (by rw [hk]; rfl) rfl (handsOn_verifyBody hb hl)
  | flush => exact hrow (.flushBody 0) (by rw [hk]; rfl) rfl (handsOn_flushBody _ _)

theorem tlv_stepHandsOn {k : BitVec 8} (hp : s.port = []) (hb : s.phase = .busy) (hu : s.unit = .tlv 108 k) :
    StepHandsOn 1 s :=
  stepHandsOn_of_row hp hb (fetchIn_tlv hu rfl) (handsOn_tlvWalkEnd _ _)

/-- A job in progress takes a step, with which it ends or comes nearer its end: no data stops it. -/
theorem running_stepHandsOn (hr : Running s) (hp : s.port = []) : StepHandsOn (rowsLeft s.unit) s := by
  obtain ⟨hb, hl, hok⟩ := hr
  unfold unitOk at hok
  cases hu : s.unit with
  | job => exact job_stepHandsOn hp hb hu
  | pdu po pl =>
    simp only [hu] at hok
    obtain ⟨hc, rfl, hpl⟩ := hok
    exact pdu_stepHandsOn hp hb hu hc (hpl.trans hl)
  | lane po pl =>
    simp only [hu] at hok
    obtain ⟨haal, htt, rfl, hpl⟩ := hok
    exact lane_stepHandsOn hp hb hu haal htt hpl hl
  | lec f =>
    simp only [hu] at hok
    subst hok
    exact lec_stepHandsOn hp hb hu hl
  | body f =>
    simp only [hu] at hok
    obtain ⟨rfl, -, -, hn, ht⟩ := hok
    exact body_stepHandsOn hp hb hu hl hn ht
  | tlv o k =>
    simp only [hu] at hok
    obtain ⟨rfl, -⟩ := hok
    exact tlv_stepHandsOn hp hb hu

end Steps

/-! Runs. -/

theorem runFor_succ {s t : State} (k : Nat) (h : step s = .next t) : runFor (k + 1) s = runFor k t := by
  simp [runFor, h]

theorem runFor_idle {s : State} (hp : s.port = []) (hi : s.phase = .idle) (k : Nat) : runFor k s = some s := by
  induction k with
  | zero => rfl
  | succ k ih => rw [runFor_succ k (step_idle hp hi), ih]

/-- As many steps as rows are left at most end a job, by induction on them. -/
theorem running_ends {k : Nat} {s : State} (hr : Running s) (hp : s.port = []) (hk : rowsLeft s.unit ≤ k) :
    ∃ t, runFor k s = some t ∧ t.phase = .idle ∧ t.done = true ∧ t.buf = s.buf ∧ t.desc = s.desc := by
  induction k generalizing s with
  | zero => cases hu : s.unit <;> simp [hu, rowsLeft] at hk
  | succ k ih =>
    obtain ⟨u, hstep, hframe, hon⟩ := running_stepHandsOn hr hp
    have hpu : u.port = [] := hframe.port.trans hp
    rw [runFor_succ k hstep]
    rcases hon with ⟨hi, hd⟩ | ⟨hru, hless⟩
    · exact ⟨u, runFor_idle hpu hi k, hi, hd, hframe.buf, hframe.desc⟩
    · obtain ⟨t, hrun, hi, hd, hbuf, hdesc⟩ := ih hru hpu (by omega)
      exact ⟨t, hrun, hi, hd, hbuf.trans hframe.buf, hdesc.trans hframe.desc⟩

/-- Settles O57, by induction on the rows left before the job's end. -/
theorem busyJobEnds : Obligations.BusyJobEnds := by
  intro s hinv hb hp
  have hsix : rowsLeft s.unit ≤ 6 := by cases s.unit <;> simp [rowsLeft]
  exact running_ends ⟨hb, hinv.lim, hinv.unit hb⟩ hp hsix

end Sys2Proof.Proofs
end

section
/-! PROOFS. RowRules: what a row is made of. A property of decode steps that the primitives have and that `do` composes
holds of every row; only the job rows and PDU_LANE, which move the read limit, are left to its user. -/

namespace Sys2Proof.Proofs

open Sys2Proof Sys2Proof.Machine Sys2Proof.Safety Sys2Proof.Laws

/-- The result writes of the rows: a valid bit, and what is written to the fields under it (00_scope R9, 10_state
R32). -/
inductive FieldWrite (c : Config) : VBit → (Record → Record) → Prop
  | hdr (h : Nat) : FieldWrite c .hdr (unpackHeader c h)
  | a5Trailer (uu cpi : BitVec 8) (len : BitVec 16) (crc : Word) (src : BitVec 1) :
    FieldWrite c .a5Trailer fun r => { r with uu := uu, cpi := cpi, len := len, crc := crc, trailerSrc := src }
  | a5Cells (n : Word) (src : BitVec 1) : FieldWrite c .a5Cells fun r => { r with a5Cells := n, cellsSrc := src }
  | a5Pad (off len : Record → Word) : FieldWrite c .a5Pad fun r => { r with padOff := off r, padLen := len r }
  | disp (t : Target) (off len : Word) :
    FieldWrite c .disp fun r => { r with dispTarget := t, dispOff := off, dispLen := len }
  | laneClient (v : BitVec 16) : FieldWrite c .laneClient fun r => { r with laneClient := v }
  | marker (v : BitVec 16) : FieldWrite c .lecMarker fun r => { r with marker := v }
  | protocol (v : BitVec 8) : FieldWrite c .lecProtocol fun r => { r with protocol := v }
  | version (v : BitVec 8) : FieldWrite c .lecVersion fun r => { r with version := v }
  | opcode (op : Half) :
    FieldWrite c .lecOpcode fun r => { r with opcode := op, opclass := BitVec.ofNat 5 (opclass c op) }
  | status (v : BitVec 16) : FieldWrite c .lecStatus fun r => { r with status := v }
  | transId (v : Word) : FieldWrite c .lecTransId fun r => { r with transId := v }
  | reqLecId (v : BitVec 16) : FieldWrite c .lecReqLecId fun r => { r with reqLecId := v }
  | flags (v : BitVec 16) : FieldWrite c .lecFlags fun r => { r with flags := v }
  | remote (v : Record → BitVec 1) : FieldWrite c .lecFlagRemote fun r => { r with remote := v r }
  | v2Capable (v : Record → BitVec 1) : FieldWrite c .lecFlagV2 fun r => { r with v2Capable := v r }
  | body (k : BodyKind) : FieldWrite c .lecBody fun r => { r with body := k }
  | ld (i : Nat) (g : LanDest → LanDest) : FieldWrite c (ldBit i) fun r => r.setLd i (g (r.ld i))
  | atm0 (v : BitVec 160) : FieldWrite c .atm0 fun r => { r with atm0 := v }
  | atm1 (v : BitVec 160) : FieldWrite c .atm1 fun r => { r with atm1 := v }
  | lanType (v : BitVec 8) : FieldWrite c .cjLanType fun r => { r with lanType := v }
  | maxFrame (v : BitVec 8) : FieldWrite c .cjMaxFrame fun r => { r with maxFrame := v }
  | numTlvs (v : BitVec 8) : FieldWrite c .numTlvs fun r => { r with numTlvs := v }
  | nameSize (n : Nat) :
    FieldWrite c .cjNameSize fun r => { r with nameSize := BitVec.ofNat 8 n, nameLen := nameLenOf c n }
  | name (v : Record → BitVec 256) : FieldWrite c .cjName fun r => { r with name := v r }
  | tlvsStart : FieldWrite c .tlvs fun r => { r with tlvsDone := 0 }
  | tlvEntry (k : Nat) (hk : k < 255) (x : TlvRec) :
    FieldWrite c .tlvs fun r => { r with tlvs := tlvPut r.tlvs k x, tlvsDone := BitVec.ofNat 9 (k + 1) }

/-- A property of decode steps that every primitive has and that composition keeps. The name and the TLV run stand
whole, since parts of them write a field apart from its valid bit. -/
structure RowRule (c : Config) (R : ∀ {α : Type}, Dec α → Prop) : Prop where
  pure : ∀ {α : Type} (a : α), R (pure a : Dec α)
  bind : ∀ {α β : Type} {m : Dec α} {g : α → Dec β}, R m → (∀ a, R (g a)) → R (m >>= g)
  raiseIn : ∀ (u : ErrUnit) (k : ErrKind) (o : Nat), u ≠ .none → k ≠ .none → R (raiseIn u k o : Dec Unit)
  memRead : ∀ (u : ErrUnit) (o n : Nat), u ≠ .none → R (memRead u o n)
  memBytes : ∀ (u : ErrUnit) (o n : Nat), u ≠ .none → R (memBytes u o n)
  putField : ∀ {b : VBit} {g : Record → Record}, FieldWrite c b g → R (putField g b)
  setCur : ∀ o, R (setCur o)
  skip : ∀ n, R (skip n)
  enter : ∀ u, R (enter u)
  finish : R finish
  /-- A step that looks at the latch, the record or the limit before it acts. -/
  look : ∀ {α : Type} {m : Latch → Record → Nat → Dec α}, (∀ dl r n, R (m dl r n)) → R fun s => m s.dl s.r s.lim s
  elanName : ∀ o, R (elanName c o)
  tlvRun : ∀ o n, n ≤ 255 → R (tlvRun o n)

section Rows

variable {c : Config} {R : ∀ {α : Type}, Dec α → Prop}

theorem RowRule.ite (_ : RowRule c R) {α : Type} {p : Prop} [Decidable p] {m m' : Dec α} (hm : R m) (hm' : R m') :
    R (if p then m else m') := by split <;> assumption

theorem RowRule.readField (h : RowRule c R) {u : ErrUnit} (o n : Nat) {b : VBit} {g : Nat → Record → Record}
    (hu : u ≠ .none) (hw : ∀ v, FieldWrite c b (g v)) : R (readField u o n b g) :=
  h.bind (h.memRead u o n hu) fun v => h.bind (h.putField (hw v)) fun _ => h.bind (h.setCur _) fun _ => h.pure _

theorem RowRule.dispatch (h : RowRule c R) (t : Target) (off len : Nat) : R (dispatch t off len) :=
  h.putField (.disp _ _ _)

/-! Jobs, past their opening (40, 41, 42). -/

theorem RowRule.decodeCellHeader (h : RowRule c R) : R (decodeCellHeader c) :=
  h.bind (h.memRead _ _ _ nofun) fun _ => h.bind (h.putField (.hdr _)) fun _ => h.setCur _

theorem RowRule.cellPath (h : RowRule c R) : R (cellPath c) :=
  h.bind h.decodeCellHeader fun _ =>
  h.bind (h.look (m := fun dl _ _ => Machine.dispatch (cellTarget c dl.aal) 5 (dl.l.toNat - 5))
    fun _ _ _ => h.dispatch _ _ _) fun _ => h.finish

/-- The metadata's trailer as two result writes (42 R151). -/
def metaWrites (dl : Latch) : Dec Unit :=
  if dl.cellCount = 0 then Pure.pure ()
  else do
    Machine.putField (fun r => { r with a5Cells := dl.cellCount, cellsSrc := 0 }) .a5Cells
    Machine.putField (fun r => { r with
      uu := dl.metaUu, cpi := dl.metaCpi, len := dl.metaLen, crc := dl.metaCrc, trailerSrc := 1 }) .a5Trailer

theorem pduTrunc_eq : pduTrunc = fun s => (do metaWrites s.dl; Machine.enter (.pdu 0 s.dl.l) : Dec Unit) s := by
  funext s
  rw [Machine.pduTrunc, metaTrailer, metaWrites]
  split <;> rfl

theorem RowRule.pduTrunc (h : RowRule c R) : R pduTrunc := by
  have hmeta : ∀ dl, R (metaWrites dl) := fun _ =>
    h.ite (h.pure ()) (h.bind (h.putField (.a5Cells _ _)) fun _ => h.putField (.a5Trailer _ _ _ _ _))
  rw [pduTrunc_eq]
  exact h.look (m := fun dl _ _ => metaWrites dl >>= fun _ => Machine.enter (.pdu 0 dl.l)) fun dl _ _ =>
    h.bind (hmeta dl) fun _ => h.enter _

theorem RowRule.pduCut (h : RowRule c R) : R pduCut :=
  h.look (m := fun dl _ _ => Machine.enter (.pdu 0 dl.l)) fun _ _ _ => h.enter _

theorem tailFits_eq : tailFits = fun s =>
    (if s.dl.l.toNat < 8 then Machine.raiseIn .aal5 .truncatedBuffer 0 else Pure.pure () : Dec Unit) s := by
  funext s
  rw [tailFits]
  split <;> rfl

theorem RowRule.tailFits (h : RowRule c R) : R tailFits := by
  rw [tailFits_eq]
  exact h.look (m := fun dl _ _ => if dl.l.toNat < 8 then Machine.raiseIn .aal5 .truncatedBuffer 0 else Pure.pure ())
    fun _ _ _ => h.ite (h.raiseIn _ _ _ nofun nofun) (h.pure ())

/-- The inferred cell count as a result write (42 R159). -/
def cellsWrite (c : Config) (rl : Nat) : Dec Unit :=
  if rl % c.cellPayload = 0 then
    Machine.putField (fun r => { r with a5Cells := BitVec.ofNat 32 (rl / c.cellPayload), cellsSrc := 1 }) .a5Cells
  else Pure.pure ()

theorem put'_inferCells : put' (inferCells c) = fun s => cellsWrite c s.dl.rl.toNat s := by
  funext s
  rw [put'_apply, inferCells, cellsWrite]
  split <;> rfl

theorem RowRule.inferCells (h : RowRule c R) : R (put' (inferCells c)) := by
  rw [put'_inferCells]
  exact h.look (m := fun dl _ _ => cellsWrite c dl.rl.toNat) fun _ _ _ =>
    h.ite (h.putField (.a5Cells _ _)) (h.pure ())

/-- The length check and the padding report for a trailer's LEN (42 R154, R155). -/
def lengthSteps (l len : Nat) : Dec Unit :=
  if l - 8 < len then Machine.raiseIn .aal5 .malformedLength (l - 6)
  else if len < l - 8 then
    Machine.putField (fun r => { r with
      padOff := BitVec.ofNat 32 r.len.toNat, padLen := BitVec.ofNat 32 (l - 8 - r.len.toNat) }) .a5Pad
  else Pure.pure ()

theorem tailLength_eq (l : Nat) : tailLength l = fun s => lengthSteps l s.r.len.toNat s := by
  funext s
  rw [tailLength, lengthSteps]
  split_ifs <;> rfl

theorem RowRule.tailLength (h : RowRule c R) (l : Nat) : R (tailLength l) := by
  rw [tailLength_eq]
  exact h.look (m := fun _ r _ => lengthSteps l r.len.toNat) fun _ _ _ =>
    h.ite (h.raiseIn _ _ _ nofun nofun) (h.ite (h.putField (.a5Pad _ _)) (h.pure ()))

/-- What the whole-PDU path does after its trailer is read (42 R154, R155, R159). -/
def tailRest (c : Config) (l : Nat) : Dec Unit := do
  put' (inferCells c)
  tailLength l
  tailDispatch

theorem RowRule.tailRest (h : RowRule c R) (l : Nat) : R (tailRest c l) :=
  h.bind h.inferCells fun _ => h.bind (h.tailLength l) fun _ =>
    h.look (m := fun _ r _ => Machine.enter (.pdu 0 (r.len.setWidth 32))) fun _ _ _ => h.enter _

/-! Dispatch and LANE (40). -/

theorem RowRule.handOn (h : RowRule c R) (t : Target) (po pl : Nat) : R (handOn t po pl) :=
  h.bind (h.dispatch _ _ _) fun _ => h.finish

theorem RowRule.laneLe (h : RowRule c R) (po pl : Word) : R (laneLe po pl) :=
  h.bind (h.dispatch _ _ _) fun _ => h.enter _

theorem RowRule.laneData (h : RowRule c R) (t : Target) (po pl : Nat) : R (laneData t po pl) :=
  h.bind (h.readField _ _ nofun fun _ => .laneClient _) fun _ => h.bind (h.dispatch _ _ _) fun _ => h.finish

/-! LAN destinations and TLVs (45). -/

theorem RowRule.ldWrite (h : RowRule c R) (d i : Nat) (g : LanDest → LanDest) : R (ldWrite d i g) :=
  h.bind (h.putField (.ld i g)) fun _ => h.setCur _

theorem RowRule.lanDest (h : RowRule c R) (d i : Nat) : R (lanDest c d i) :=
  h.bind (h.memRead _ _ _ nofun) fun _ =>
  h.ite (h.bind (h.memRead _ _ _ nofun) fun _ => h.ldWrite _ _ _)
    (h.ite (h.bind (h.memRead _ _ _ nofun) fun _ => h.ldWrite _ _ _) (h.ldWrite _ _ _))

theorem RowRule.tlvWalkEnd (h : RowRule c R) (o : Nat) {n : Nat} (hn : n ≤ 255) : R (tlvWalkEnd o n) :=
  h.bind (h.tlvRun o n hn) fun _ => h.finish

/-! The LE Control bodies (44). -/

theorem RowRule.readAtm0 (h : RowRule c R) (o : Nat) : R (readAtm0 o) :=
  h.bind (h.memBytes _ _ _ nofun) fun _ => h.bind (h.putField (.atm0 _)) fun _ => h.setCur _

theorem RowRule.readAtm1 (h : RowRule c R) (o : Nat) : R (readAtm1 o) :=
  h.bind (h.memBytes _ _ _ nofun) fun _ => h.bind (h.putField (.atm1 _)) fun _ => h.setCur _

theorem RowRule.readNumTlvs (h : RowRule c R) (o : Nat) : R (readNumTlvs o) :=
  h.readField _ _ nofun fun _ => .numTlvs _

theorem RowRule.bodyHead (h : RowRule c R) (f : Nat) : R (bodyHead c f) :=
  h.bind (h.lanDest _ _) fun _ => h.bind (h.lanDest _ _) fun _ => h.readAtm0 _

theorem RowRule.cjScalars (h : RowRule c R) (o : Nat) : R (cjScalars c o) :=
  h.bind (h.readField _ _ nofun fun _ => .lanType _) fun _ =>
  h.bind (h.readField _ _ nofun fun _ => .maxFrame _) fun _ =>
  h.bind (h.readNumTlvs _) fun _ =>
  h.bind (h.readField _ _ nofun fun _ => .nameSize _) fun _ => h.pure _

theorem RowRule.cjMiddle (h : RowRule c R) (f : Nat) : R (cjMiddle c f) := by
  unfold Machine.cjMiddle
  split
  · exact h.bind (h.readAtm1 _) fun _ => h.cjScalars _
  · exact h.bind (h.cjScalars _) fun _ => h.bind (h.readAtm1 _) fun _ => h.pure _

theorem RowRule.cjBody (h : RowRule c R) (f : Nat) : R (cjBody c f) :=
  h.bind (h.bodyHead f) fun _ => h.bind (h.cjMiddle f) fun _ => h.bind (h.elanName _) fun _ =>
  h.bind (h.setCur _) fun _ => h.enter _

theorem RowRule.regBody (h : RowRule c R) (f : Nat) : R (regBody c f) :=
  h.bind (h.bodyHead f) fun _ => h.bind (h.skip _) fun _ => h.bind (h.readNumTlvs _) fun _ =>
  h.bind (h.skip _) fun _ => h.enter _

theorem RowRule.arpBody (h : RowRule c R) (f : Nat) : R (arpBody c f) :=
  h.bind (h.bodyHead f) fun _ => h.bind (h.skip _) fun _ => h.bind (h.readNumTlvs _) fun _ =>
  h.bind (h.skip _) fun _ => h.bind (h.readAtm1 _) fun _ => h.bind (h.skip _) fun _ => h.enter _

theorem RowRule.verifyBody (h : RowRule c R) (f : Nat) : R (verifyBody f) :=
  h.bind (h.skip _) fun _ => h.bind (h.readNumTlvs _) fun _ => h.bind (h.skip _) fun _ =>
  h.bind (h.readAtm1 _) fun _ => h.bind (h.skip _) fun _ => h.enter _

theorem RowRule.flushBody (h : RowRule c R) (f : Nat) : R (flushBody c f) :=
  h.bind (h.bodyHead f) fun _ => h.bind (h.skip _) fun _ => h.bind (h.readAtm1 _) fun _ =>
  h.bind (h.skip _) fun _ => h.finish

/-! LE Control (43). -/

theorem RowRule.leOpening (h : RowRule c R) (f : Nat) (op : Half) : R (leOpening c f op) :=
  h.bind (h.readField _ _ nofun fun _ => .marker _) fun _ =>
  h.bind (h.readField _ _ nofun fun _ => .protocol _) fun _ =>
  h.bind (h.readField _ _ nofun fun _ => .version _) fun _ =>
  h.bind (h.readField _ _ nofun fun _ => .opcode _) fun _ => h.pure _

theorem RowRule.leStatus (h : RowRule c R) (f : Nat) (op : Half) : R (leStatus f op) :=
  h.bind (h.memRead _ _ _ nofun) fun _ =>
  h.ite (h.bind (h.putField (.status _)) fun _ => h.setCur _) (h.setCur _)

/-- The flag meanings as result writes (43 R173). -/
theorem put'_flagBits (op : Half) : put' (flagBits c op) = (do
    if bodyKind c op = .configureJoin then
      Machine.putField (fun r => { r with v2Capable := r.flags.extractLsb' 1 1 }) .lecFlagV2
    if opclass c op = 10 ∨ opclass c op = 11 then
      Machine.putField (fun r => { r with remote := r.flags.extractLsb' 0 1 }) .lecFlagRemote : Dec Unit) := by
  funext s
  rw [put'_apply, flagBits, flagV2, flagRemote]
  split <;> split <;> rfl

theorem RowRule.flagBits (h : RowRule c R) (op : Half) : R (put' (flagBits c op)) := by
  have hremote : R (if opclass c op = 10 ∨ opclass c op = 11 then
      Machine.putField (fun r => { r with remote := r.flags.extractLsb' 0 1 }) .lecFlagRemote else Pure.pure ()) :=
    h.ite (h.putField (.remote _)) (h.pure ())
  rw [put'_flagBits]
  exact h.ite (h.bind (h.putField (.v2Capable _)) fun _ => hremote) hremote

theorem RowRule.leFields (h : RowRule c R) (f : Nat) (op : Half) : R (leFields c f op) :=
  h.bind (h.leStatus f op) fun _ =>
  h.bind (h.readField _ _ nofun fun _ => .transId _) fun _ =>
  h.bind (h.readField _ _ nofun fun _ => .reqLecId _) fun _ =>
  h.bind (h.readField _ _ nofun fun _ => .flags _) fun _ =>
  h.bind (h.flagBits op) fun _ => h.setCur _

theorem RowRule.leBody (h : RowRule c R) (f : Word) (op : Half) : R (leBody c f op) := by
  refine h.bind (h.putField (.body _)) fun _ => ?_
  unfold leEnter
  split
  · exact h.finish
  · exact h.finish
  all_goals exact h.enter _

theorem RowRule.leControl (h : RowRule c R) (f : Word) (op : Half) : R (leControl c f op) :=
  h.bind (h.leOpening _ _) fun _ => h.ite h.finish (h.bind (h.leFields _ _) fun _ => h.leBody _ _)

/-! Every row but those that move the limit. -/

theorem RowRule.rowIn (h : RowRule c R) {i : Instr} (hjob : i.format ≠ .job) (hlane : ∀ po pl, i ≠ .pduLane po pl) :
    R (rowIn c i) := by
  cases i with
  | jobCell | jobPduTrunc | jobPduTail | jobPduCut => exact absurd rfl hjob
  | pduLane po pl => exact absurd rfl (hlane po pl)
  | pduSscop | pduLlc | pduIlmi | pduRaw | laneRaw => exact h.handOn _ _ _
  | laneLeControl => exact h.laneLe _ _
  | lane8023 | lane8025 | lane8023Mc | lane8025Mc => exact h.laneData _ _ _
  | hdrUnpack => exact h.decodeCellHeader
  | ldDecode => exact h.lanDest _ _
  | tlvWalk o n => exact h.tlvWalkEnd _ (Nat.le_of_lt_succ n.isLt)
  | cjBody => exact h.cjBody _
  | regBody => exact h.regBody _
  | arpBody => exact h.arpBody _
  | verifyBody => exact h.verifyBody _
  | flushBody => exact h.flushBody _
  | _ => exact h.leControl _ _

end Rows

end Sys2Proof.Proofs
end

section
/-! PROOFS. Changes: everything one step can change: what each host transaction does, and what the engine runs in its
turn (10_state R49, 40 R120, 43 R170). -/

namespace Sys2Proof.Proofs

open Sys2Proof Sys2Proof.Machine Sys2Proof.Safety Sys2Proof.Laws

/-! The register map (10_state section 2). -/

/-- A register with a row of its own stands at that row's address. -/
theorem mem_regTable_of_lookup {a : Nat} {x : Reg} (h : regTable.lookup a = some x) : (a, x) ∈ regTable := by
  obtain ⟨l, k, hl, -⟩ := List.lookup_eq_some_iff.mp h
  rw [hl]
  exact List.mem_append_right _ List.mem_cons_self

theorem lookup_regTable_of_mem : ∀ p ∈ regTable, regTable.lookup p.1 = some p.2 := by decide

theorem regAt_of_mem (c : Config) {a : Nat} {x : Reg} (h : (a, x) ∈ regTable) : regAt c a = some x := by
  simp [regAt, lookup_regTable_of_mem _ h]

/-- The registers a write can change (10_state R22 to R30). -/
def writableRegs : List Reg :=
  [.ctrl, .status, .dCapLen, .dRepLen, .dClass, .dFlags, .dCellCount, .dMetaA, .dMetaCrc]

theorem regWrite_of_not_writable {x : Reg} (h : x ∉ writableRegs) (v : Word) (s : State) : regWrite x v s = s := by
  cases x with
  | ctrl | status | dCapLen | dRepLen | dClass | dFlags | dCellCount | dMetaA | dMetaCrc => exact absurd (by decide) h
  | _ => rfl

/-- A register that a write can change has a row of its own. -/
theorem mem_regTable_of_writable {c : Config} {a : Nat} {x : Reg} (h : regAt c a = some x) (hx : x ∈ writableRegs) :
    (a, x) ∈ regTable := by
  unfold regAt at h
  split at h
  · next hl => exact mem_regTable_of_lookup (hl.trans h)
  · split_ifs at h <;> cases h <;> simp [writableRegs] at hx

theorem address_of_writable {c : Config} {a : Nat} {x : Reg} (h : regAt c a = some x) (hx : x ∈ writableRegs) :
    (x = .ctrl ∧ a = 0x000) ∨ (x = .status ∧ a = 0x004) ∨ (x ≠ .ctrl ∧ x ≠ .status ∧ 0x010 ≤ a ∧ a ≤ 0x028) := by
  have hall : ∀ p ∈ regTable, p.2 ∈ writableRegs → (p.2 = .ctrl ∧ p.1 = 0x000) ∨ (p.2 = .status ∧ p.1 = 0x004) ∨
      (p.2 ≠ .ctrl ∧ p.2 ≠ .status ∧ 0x010 ≤ p.1 ∧ p.1 ≤ 0x028) := by decide
  exact hall (a, x) (mem_regTable_of_writable h hx) hx

/-! A host transaction. -/

/-- What a host transaction that is served can do to the engine. -/
inductive HostChange (s : State) (op : PortOp) : State → Prop
  | ctrl (v : Word) : op = .wr 0x000 4 v → HostChange s op (ctrlWrite v s)
  | clearDone (v : Word) : op = .wr 0x004 4 v → v.getLsbD 1 = true → HostChange s op s.clearDone
  | desc (d : Descriptor) : s.phase = .idle → (d.flags = s.desc.flags ∨ ∃ v, d.flags = v &&& 1#32) →
    HostChange s op { s with desc := d }
  | byte (o : Nat) (b : Byte) : s.phase = .idle → o < 65568 → HostChange s op { s with buf := Memory.write s.buf o b }
  | values (rd : Word) (bd : Byte) (n : Nat) : HostChange s op { s with rdata := rd, bdata := bd, freeCount := n }

theorem HostChange.same (s : State) (op : PortOp) : HostChange s op s := .values s.rdata s.bdata s.freeCount

theorem hostChange_descWrite (s : State) (op : PortOp) {g : Descriptor → Descriptor}
    (hg : (g s.desc).flags = s.desc.flags ∨ ∃ v, (g s.desc).flags = v &&& 1#32) :
    HostChange s op (descWrite g s) := by
  unfold descWrite
  split
  · exact .same s op
  · next hb =>
    have hidle : s.phase = .idle := by cases hp : s.phase <;> simp_all
    exact .desc _ hidle hg

theorem regWriteAt_of_none {c : Config} {a : Nat} (h : regAt c a = none) (v : Word) (s : State) :
    regWriteAt c a v s = s := by simp [regWriteAt, h]

theorem regWriteAt_of_some {c : Config} {a : Nat} {x : Reg} (h : regAt c a = some x) (v : Word) (s : State) :
    regWriteAt c a v s = regWrite x v s := by simp [regWriteAt, h]

theorem hostChange_regWriteAt (a : Nat) (v : Word) (s : State) :
    HostChange s (.wr a 4 v) (regWriteAt Config.aldb a v s) := by
  cases hx : regAt Config.aldb a with
  | none =>
    rw [regWriteAt_of_none hx]
    exact .same _ _
  | some x =>
    rw [regWriteAt_of_some hx]
    by_cases hw : x ∈ writableRegs
    · rcases address_of_writable hx hw with ⟨rfl, rfl⟩ | ⟨rfl, rfl⟩ | ⟨hc, hs, -⟩
      · exact .ctrl v rfl
      · rw [regWrite]
        split
        · next h => exact .clearDone v rfl h
        · exact .same _ _
      · cases x <;> simp [writableRegs] at hw hc hs
        case dFlags =>
          rw [regWrite]
          exact hostChange_descWrite _ _ (.inr ⟨v, rfl⟩)
        all_goals
          rw [regWrite]
          exact hostChange_descWrite _ _ (.inl rfl)
    · rw [regWrite_of_not_writable hw]
      exact .same _ _

/-- A register read moves the model's count of free values at most (log entry 4). -/
theorem regRead_state (c : Config) (s : State) (a : Nat) : ∃ n, (regRead c s a).2 = { s with freeCount := n } := by
  unfold regRead
  split
  · exact ⟨s.freeCount, rfl⟩
  · split
    · exact ⟨s.freeCount + 1, rfl⟩
    · exact ⟨s.freeCount, rfl⟩

/-- A register access that goes on is an aligned word inside the register space, and is served. -/
theorem regAccess_next {a size : Nat} {served : Host.Outcome State Fault Refusal} {t : State}
    (h : regAccess a size served = .next t) : size = 4 ∧ a % 4 = 0 ∧ served = .next t := by
  unfold regAccess at h
  split at h
  · cases h
  · split at h
    · cases h
    · exact ⟨by omega, by omega, h⟩

theorem hostAccess_next {op : PortOp} {s t : State} (h : hostAccess Config.aldb op s = .next t) :
    HostChange s op t := by
  cases op with
  | wr a size v =>
    obtain ⟨rfl, -, hserved⟩ := regAccess_next h
    cases hserved
    exact hostChange_regWriteAt a v s
  | rd a size =>
    obtain ⟨-, -, hserved⟩ := regAccess_next h
    cases hserved
    obtain ⟨n, hn⟩ := regRead_state Config.aldb s a
    rw [hostRd, hn]
    exact .values _ s.bdata n
  | bufWr o b =>
    simp only [hostAccess, hostBufWr] at h
    split_ifs at h with hcap hbusy
    cases h
    have hidle : s.phase = .idle := by cases hp : s.phase <;> simp_all
    exact .byte o b hidle (Nat.lt_of_not_le hcap)
  | bufRd o =>
    simp only [hostAccess, hostBufRd] at h
    split_ifs at h
    cases h
    exact .values s.rdata _ s.freeCount
  | expect a v =>
    obtain ⟨-, -, hserved⟩ := regAccess_next h
    unfold hostExpect at hserved
    split at hserved <;> cases hserved
    obtain ⟨n, hn⟩ := regRead_state Config.aldb s a
    rw [hn]
    exact .values s.rdata s.bdata n
  | wait | tick =>
    cases h
    exact .same _ _

/-! A step. -/

/-- What a step that goes on can be: nothing but a transaction passed over, the engine's turn, or a host transaction. -/
inductive StepChange (s : State) : State → Prop
  | pass (p : List PortOp) : StepChange s { s with port := p }
  | turn (p : List PortOp) {t : State} : s.phase = .busy → engineStep Config.aldb exec { s with port := p } = .next t →
    StepChange s t
  | host (op : PortOp) (rest : List PortOp) {t : State} : s.port = op :: rest →
    HostChange { s with port := rest } op t → StepChange s t

theorem stepChange_of_engineTurn {s t : State} (p : List PortOp)
    (h : engineTurn Config.aldb exec { s with port := p } = .next t) : StepChange s t := by
  cases hp : s.phase with
  | idle =>
    rw [engineTurn_idle _ _ (s := { s with port := p }) hp] at h
    cases h
    exact .pass p
  | busy =>
    rw [engineTurn_busy _ _ (s := { s with port := p }) hp] at h
    exact .turn p hp h

/-- Everything a step can do. -/
theorem step_next {s t : State} (h : step s = .next t) : StepChange s t := by
  unfold step at h
  cases hp : s.port with
  | nil =>
    rw [stepOf_nil _ _ hp] at h
    exact stepChange_of_engineTurn s.port h
  | cons op rest =>
    by_cases htick : op = .tick
    · subst htick
      rw [stepOf_tick _ _ hp] at h
      exact stepChange_of_engineTurn rest h
    by_cases hwait : op = .wait
    · subst hwait
      rw [stepOf_wait _ _ hp] at h
      split at h
      · cases h
        exact .pass rest
      · exact stepChange_of_engineTurn s.port h
    · rw [stepOf_access _ _ hp htick hwait] at h
      exact .host op rest hp (hostAccess_next h)

/-! The engine's turn. -/

/-- What the engine runs at the unit it is about to enter (40 R120, R125, R130; 43 R170; 44 R210). -/
inductive Runs (s : State) : Dec Unit → Prop
  | jobCell : s.unit = .job → Runs s (jobCell Config.aldb)
  | jobPduTrunc : s.unit = .job → pduClass s.dl → Runs s (jobPduTrunc Config.aldb)
  | jobPduTail : s.unit = .job → pduClass s.dl → Runs s (jobPduTail Config.aldb)
  | jobPduCut : s.unit = .job → pduClass s.dl → Runs s (jobPduCut Config.aldb)
  | pduHandOn (t : Target) {po pl : Word} : s.unit = .pdu po pl → Runs s (handOn t po.toNat pl.toNat)
  | laneSplit {po pl : Word} : s.unit = .pdu po pl → s.dl.aal = 4 → s.dl.trafType = 3 → Runs s (laneSplit po pl)
  | laneHandOn (t : Target) {po pl : Word} : s.unit = .lane po pl → Runs s (handOn t po.toNat pl.toNat)
  | laneData (t : Target) {po pl : Word} : s.unit = .lane po pl → Runs s (laneData t po.toNat pl.toNat)
  | laneLe {po pl : Word} : s.unit = .lane po pl → Runs s (laneLe po pl)
  | leControl (op : Half) {f : Word} : s.unit = .lec f → Runs s (leControl Config.aldb f op)
  | leShort {f : Word} : s.unit = .lec f → s.lim < f.toNat + 6 → Runs s (leShort Config.aldb f)
  | noBody {f : Word} : s.unit = .body f → Runs s finish
  | cjBody {f : Word} : s.unit = .body f → Runs s (cjBody Config.aldb f.toNat)
  | regBody {f : Word} : s.unit = .body f → Runs s (regBody Config.aldb f.toNat)
  | arpBody {f : Word} : s.unit = .body f → Runs s (arpBody Config.aldb f.toNat)
  | verifyBody {f : Word} : s.unit = .body f → Runs s (verifyBody f.toNat)
  | flushBody {f : Word} : s.unit = .body f → Runs s (flushBody Config.aldb f.toNat)
  | tlvWalk {o : Word} {n : BitVec 8} : s.unit = .tlv o n → Runs s (tlvWalkEnd o.toNat n.toNat)

/-- Bits that select a row select the one they are decoded to. -/
theorem eq_of_fetchRow {c : Config} {fmt : Format} {bs : List Byte} {i j : Instr} (hd : decodeIn c fmt bs = checked c j)
    (hf : fetchRow c fmt bs = .row i) : i = j := by
  unfold fetchRow checked at *
  rw [hd] at hf
  split_ifs at hf
  cases hf
  rfl

section Fetched

variable {c : Config} {s : State} {i : Instr}

theorem selectPdu_of_fetchIn {po pl : Word} (hu : s.unit = .pdu po pl) (hf : fetchIn c s = .row i) :
    selectPdu c s.dl.aal s.dl.trafType po pl = some i := by
  simp only [fetchIn, hu] at hf
  cases hsel : selectPdu c s.dl.aal s.dl.trafType po pl with
  | none => simp [fetchRow, decodeIn, sliceBytes, wordBytes, leBytes, hsel] at hf
  | some j => rw [eq_of_fetchRow (decodeIn_pduBytes _ hsel) hf]

theorem selectLane_of_fetchIn {po pl : Word} (hu : s.unit = .lane po pl) (hf : fetchIn c s = .row i) :
    selectLane c s.dl.aal s.dl.trafType s.dl.trafSubtype po pl = some i := by
  simp only [fetchIn, hu] at hf
  cases hsel : selectLane c s.dl.aal s.dl.trafType s.dl.trafSubtype po pl with
  | none => simp [fetchRow, decodeIn, sliceBytes, wordBytes, leBytes, hsel] at hf
  | some j => rw [eq_of_fetchRow (decodeIn_laneBytes hsel) hf]

theorem selectOpcode_of_fetchIn {f : Word} (hu : s.unit = .lec f) (hf : fetchIn c s = .row i) :
    ∃ op, i = selectOpcode c op f := by
  simp only [fetchIn, hu, fetchOpcode] at hf
  split at hf
  · exact ⟨_, eq_of_fetchRow (decodeIn_opcodeAt _ _ _ _) hf⟩
  · cases hf

theorem fetchBody_eq (c : Config) (s : State) (f : Word) :
    fetchBody c s f =
      if s.r.body = .none ∨ s.r.body = .topology then .noBody
      else fetchRow c .lecBody (bodyBytes (s.r.body.code.setWidth 8) f) := by
  unfold fetchBody
  cases s.r.body <;> rfl

theorem selectBody_of_fetchIn {f : Word} (hu : s.unit = .body f) (hf : fetchIn c s = .row i) :
    selectBody (s.r.body.code.setWidth 8) f = some i := by
  have hrow : fetchRow c .lecBody (bodyBytes (s.r.body.code.setWidth 8) f) = .row i := by
    simp only [fetchIn, hu, fetchBody_eq] at hf
    split at hf
    · cases hf
    · exact hf
  cases hsel : selectBody (s.r.body.code.setWidth 8) f with
  | none => simp [fetchRow, decodeIn, bodyBytes, wordBytes, leBytes, hsel] at hrow
  | some j => rw [eq_of_fetchRow (decodeIn_bodyBytes hsel) hrow]

theorem tlvWalk_of_fetchIn {o : Word} {n : BitVec 8} (hu : s.unit = .tlv o n) (hf : fetchIn c s = .row i) :
    i = .tlvWalk o n := by
  simp only [fetchIn, hu] at hf
  exact eq_of_fetchRow (decodeIn_tlvBytes _ _ _) hf

end Fetched

section Runs

variable {s : State} {i : Instr}

theorem runs_of_job (hu : s.unit = .job) (hf : fetchIn Config.aldb s = .row i) : Runs s (rowIn Config.aldb i) := by
  rw [fetchIn_job hu] at hf
  obtain rfl := Fetched.row.inj hf
  unfold selectJob
  split_ifs with hc
  · exact .jobPduTrunc hu hc
  · exact .jobPduTail hu hc
  · exact .jobPduCut hu hc
  · exact .jobCell hu

theorem runs_of_pdu {po pl : Word} (hu : s.unit = .pdu po pl) (hf : fetchIn Config.aldb s = .row i) :
    Runs s (rowIn Config.aldb i) := by
  have hsel := selectPdu_of_fetchIn hu hf
  unfold selectPdu at hsel
  split_ifs at hsel with _ haal _ htt <;> obtain rfl := Option.some.inj hsel
  · exact .pduHandOn _ hu
  · exact .pduHandOn _ hu
  · exact .laneSplit hu haal htt
  · exact .pduHandOn _ hu
  · exact .pduHandOn _ hu

theorem runs_of_lane {po pl : Word} (hu : s.unit = .lane po pl) (hf : fetchIn Config.aldb s = .row i) :
    Runs s (rowIn Config.aldb i) := by
  have hsel := selectLane_of_fetchIn hu hf
  unfold selectLane at hsel
  split_ifs at hsel <;> obtain rfl := Option.some.inj hsel
  · exact .laneLe hu
  · exact .laneData _ hu
  · exact .laneData _ hu
  · exact .laneData _ hu
  · exact .laneData _ hu
  · exact .laneHandOn _ hu

theorem runs_of_lec {f : Word} (hu : s.unit = .lec f) (hf : fetchIn Config.aldb s = .row i) :
    Runs s (rowIn Config.aldb i) := by
  obtain ⟨op, rfl⟩ := selectOpcode_of_fetchIn hu hf
  obtain ⟨op', hop⟩ := rowIn_selectOpcode Config.aldb op f
  rw [hop]
  exact .leControl op' hu

theorem runs_of_body {f : Word} (hu : s.unit = .body f) (hf : fetchIn Config.aldb s = .row i) :
    Runs s (rowIn Config.aldb i) := by
  have hsel := selectBody_of_fetchIn hu hf
  unfold selectBody at hsel
  split_ifs at hsel <;> obtain rfl := Option.some.inj hsel
  · exact .cjBody hu
  · exact .regBody hu
  · exact .arpBody hu
  · exact .verifyBody hu
  · exact .flushBody hu

theorem runs_of_fetchIn (hf : fetchIn Config.aldb s = .row i) : Runs s (rowIn Config.aldb i) := by
  cases hu : s.unit with
  | job => exact runs_of_job hu hf
  | pdu => exact runs_of_pdu hu hf
  | lane => exact runs_of_lane hu hf
  | lec => exact runs_of_lec hu hf
  | body => exact runs_of_body hu hf
  | tlv =>
    obtain rfl := tlvWalk_of_fetchIn hu hf
    exact .tlvWalk hu

/-- Only a frame that ends before its opcode is short (43 R174). -/
theorem lec_of_shortFrame {f : Word} (hf : fetchIn Config.aldb s = .shortFrame f) :
    s.unit = .lec f ∧ s.lim < f.toNat + 6 := by
  cases hu : s.unit <;> simp only [fetchIn, hu, fetchRow, fetchBody_eq, fetchOpcode] at hf
  case lec g =>
    split at hf
    · split at hf <;> cases hf
    · cases hf
      exact ⟨rfl, by omega⟩
  case body =>
    split at hf
    · cases hf
    · split at hf <;> cases hf
  all_goals split at hf <;> cases hf

theorem body_of_noBody (hf : fetchIn Config.aldb s = .noBody) : ∃ f, s.unit = .body f := by
  cases hu : s.unit <;> simp only [fetchIn, hu, fetchRow, fetchOpcode] at hf
  case body f => exact ⟨f, rfl⟩
  case lec =>
    split at hf
    · split at hf <;> cases hf
    · cases hf
  all_goals split at hf <;> cases hf

/-- Whatever the engine does in its turn is one of the runs above, settled (60 R263). -/
theorem engineStep_next {t : State} (h : engineStep Config.aldb exec s = .next t) :
    ∃ m, Runs s m ∧ t = settle (m s) := by
  unfold engineStep at h
  cases hf : fetchIn Config.aldb s with
  | row i =>
    simp only [hf, exec_eq, Host.Outcome.next.injEq] at h
    exact ⟨_, runs_of_fetchIn hf, h.symm⟩
  | shortFrame f =>
    simp only [hf, runRow_eq, Host.Outcome.next.injEq] at h
    obtain ⟨hu, hlim⟩ := lec_of_shortFrame hf
    exact ⟨_, .leShort hu hlim, h.symm⟩
  | noBody =>
    simp only [hf, runRow_eq, Host.Outcome.next.injEq] at h
    obtain ⟨f, hu⟩ := body_of_noBody hf
    exact ⟨_, .noBody hu, h.symm⟩
  | rejected e => simp [hf] at h

end Runs

end Sys2Proof.Proofs
end

section
/-! PROOFS. Reported: a property of the record and its valid bits that each result write keeps is kept by everything the
engine runs; with it, a field whose valid bit is 0 reads 0 (10_state R32). -/

namespace Sys2Proof.Proofs

open Sys2Proof Sys2Proof.Machine Sys2Proof.Safety Sys2Proof.Laws

/-- A property of the record and R_VALID that every result write keeps. -/
def KeptByWrites (c : Config) (P : Record → BitVec 32 → Prop) : Prop :=
  ∀ b g r v, FieldWrite c b g → P r v → P (g r) (v ||| b.mask)

/-- The later state has the property if the earlier one has it. -/
def Carries (P : Record → BitVec 32 → Prop) (s t : State) : Prop := P s.r s.valid → P t.r t.valid

section Carried

variable {c : Config} {P : Record → BitVec 32 → Prop} {α β : Type}

/-! The pieces that write a field apart from its valid bit. -/

theorem dec_bind_ok {m : Dec α} {g : α → Dec β} {s t : State} {a : α} (h : m s = .ok a t) : (m >>= g) s = g a t := by
  simp [h]

theorem dec_bind_error {m : Dec α} {g : α → Dec β} {s t : State} {e : JobError} (h : m s = .error e t) :
    (m >>= g) s = .error e t := by simp [h]

theorem carries_bind {m : Dec α} {g : α → Dec β} (hm : Leaves (Carries P) m) (hg : ∀ a, Leaves (Carries P) (g a)) :
    Leaves (Carries P) (m >>= g) := leaves_bind (I := Carries P) (fun _ _ _ hab hbc => hbc ∘ hab) hm hg

theorem KeptByWrites.elanName (h : KeptByWrites c P) (o : Nat) : Leaves (Carries P) (elanName c o) := by
  intro s hs
  rw [Machine.elanName, dec_bind, readName_eq]
  split_ifs
  · exact h _ _ s.r _ (.name fun r => r.name) hs
  · exact h _ _ s.r _ (.name fun _ => packName (Memory.bytes s.buf o s.r.nameLen.toNat)) hs
  · exact hs

/-- The state after entry `k` of a TLV run, at `t`, is reported (45 R245). -/
def entryReported (s : State) (k t : Nat) : State :=
  let len := (byteAt s (t + 4)).toNat
  { s with
    r := { s.r with
      tlvs := tlvPut s.r.tlvs k ⟨BitVec.ofNat 32 (be s t 4), BitVec.ofNat 8 len, BitVec.ofNat 32 (t + 5)⟩
      tlvsDone := BitVec.ofNat 9 (k + 1) }
    cur := t + 5 + len }

/-- One turn of the walk's loop: the entry at `t` is reported whole, or one of its checks raises (45 R245, R246). -/
theorem tlvLoop_succ (n k t : Nat) (s : State) :
    tlvLoop (n + 1) k t s =
      if s.lim < t + 4 then .error ⟨.truncatedBuffer, .tlv, t⟩ s
      else if s.lim < t + 4 + 1 then .error ⟨.truncatedBuffer, .tlv, t + 4⟩ s
      else if s.lim < t + 5 + (byteAt s (t + 4)).toNat then .error ⟨.malformedLength, .tlv, t + 4⟩ s
      else tlvLoop n (k + 1) (t + 5 + (byteAt s (t + 4)).toNat) (entryReported s k t) := by
  rw [Machine.tlvLoop]
  split_ifs with h4 h5 hfit
  · rw [dec_bind_error (memRead_of_lt h4)]
  · rw [dec_bind_ok (memRead_of_le (Nat.le_of_not_lt h4)), dec_bind_error (memRead_of_lt h5)]
  all_goals
    rw [dec_bind_ok (memRead_of_le (Nat.le_of_not_lt h4)), dec_bind_ok (memRead_of_le (Nat.le_of_not_lt h5)),
      beNat_bytes_one]
  · exact dec_bind_error ((tlvFits_eq _ _ _).trans (if_pos hfit))
  · exact dec_bind_ok ((tlvFits_eq _ _ _).trans (if_neg hfit))

/-- Each entry is written under V.TLVS, which the walk's start has set (45 R245). -/
theorem KeptByWrites.tlvLoop (h : KeptByWrites c P) {n k t : Nat} (hn : k + n ≤ 255) {s : State}
    (hv : s.valid ||| VBit.tlvs.mask = s.valid) (hs : P s.r s.valid) :
    P (leftState (tlvLoop n k t s)).r (leftState (tlvLoop n k t s)).valid := by
  induction n generalizing k t s with
  | zero => exact hs
  | succ n ih =>
    rw [tlvLoop_succ]
    split_ifs
    · exact hs
    · exact hs
    · exact hs
    · have hw : P (entryReported s k t).r (s.valid ||| VBit.tlvs.mask) :=
        h _ _ _ _ (.tlvEntry k (by omega) _) hs
      rw [hv] at hw
      exact ih (by omega) hv hw

theorem KeptByWrites.tlvRun (h : KeptByWrites c P) (o : Nat) {n : Nat} (hn : n ≤ 255) :
    Leaves (Carries P) (tlvRun o n) := by
  intro s hs
  simp only [Machine.tlvRun, dec_bind, putField_apply, setCur_apply]
  exact h.tlvLoop (by omega) (by simp [BitVec.or_assoc]) (h _ _ _ _ .tlvsStart hs)

/-- The trailer of a captured PDU, its limit at the end of it: read whole, or refused before its first byte. -/
theorem KeptByWrites.jobPduTail (h : KeptByWrites c P) (hrest : ∀ l, Leaves (Carries P) (tailRest c l)) :
    Leaves (Carries P) (jobPduTail c) := by
  intro s hs
  by_cases hcap : c.bufCap < s.dl.l.toNat
  · rwa [Machine.jobPduTail, dec_bind_error ((jobEnter_eq c s).trans (if_pos hcap))]
  rw [Machine.jobPduTail, dec_bind_ok ((jobEnter_eq c s).trans (if_neg hcap)), pduTail]
  by_cases h8 : s.dl.l.toNat < 8
  · rwa [dec_bind_error (if_pos h8)]
  rw [dec_bind_ok (if_neg h8), dec_bind_ok (tailTrailer_of_le (Nat.le_of_not_lt h8) (le_refl _))]
  exact hrest _ _ (h _ _ _ _ (.a5Trailer _ _ _ _ _) hs)

/-- What the result writes keep, the pieces of every row keep. -/
theorem KeptByWrites.rowRule (h : KeptByWrites c P) : RowRule c fun m => Leaves (Carries P) m where
  pure _ _ := id
  bind := carries_bind
  raiseIn _ _ _ _ _ _ := id
  memRead _ _ _ _ := leaves_memRead (fun _ => id) _ _ _
  memBytes _ _ _ _ := leaves_memBytes (fun _ => id) _ _ _
  putField hw _ hs := h _ _ _ _ hw hs
  setCur _ _ := id
  skip _ _ := id
  enter _ _ := id
  finish _ := id
  look hm s := hm s.dl s.r s.lim s
  elanName := h.elanName
  tlvRun o _ hn := h.tlvRun o hn

theorem carries_jobEnter : Leaves (Carries P) (jobEnter c) := by
  intro s
  rw [jobEnter_eq]
  split <;> exact id

/-- What the result writes keep, everything the engine runs keeps. -/
theorem KeptByWrites.runs (h : KeptByWrites Config.aldb P) {s : State} {m : Dec Unit} (hm : Runs s m) :
    Leaves (Carries P) m := by
  have hr := h.rowRule
  cases hm with
  | jobCell => exact carries_bind carries_jobEnter fun _ => hr.cellPath
  | jobPduTrunc => exact carries_bind carries_jobEnter fun _ => hr.pduTrunc
  | jobPduTail => exact h.jobPduTail hr.tailRest
  | jobPduCut => exact carries_bind carries_jobEnter fun _ => hr.pduCut
  | pduHandOn | laneHandOn => exact hr.handOn _ _ _
  | laneSplit => exact carries_bind (fun _ => id) fun _ => hr.enter _
  | laneData => exact hr.laneData _ _ _
  | laneLe => exact hr.laneLe _ _
  | leControl => exact hr.leControl _ _
  | leShort => exact hr.leOpening _ _
  | noBody => exact hr.finish
  | cjBody => exact hr.cjBody _
  | regBody => exact hr.regBody _
  | arpBody => exact hr.arpBody _
  | verifyBody => exact hr.verifyBody _
  | flushBody => exact hr.flushBody _
  | tlvWalk => exact hr.tlvWalkEnd _ (Nat.le_of_lt_succ (BitVec.isLt _))

/-- Taking the error of a run writes no result (60 R263). -/
theorem carries_settle {m : Dec Unit} (hm : Leaves (Carries P) m) (s : State) : Carries P s (settle (m s)) := by
  have hs := hm s
  cases hr : m s <;> rw [hr] at hs <;> exact hs

/-- A write to CTRL leaves the results alone or clears them all (10_state R22, R31, 70 R280). -/
theorem carries_ctrlWrite (hzero : P Record.zero 0) (v : Word) (s : State) : Carries P s (ctrlWrite v s) := by
  unfold ctrlWrite
  split_ifs
  · exact fun _ => hzero
  · exact fun _ => hzero
  · exact id

/-- What the result writes keep, and the cleared record has, every step keeps. -/
theorem KeptByWrites.step (h : KeptByWrites Config.aldb P) (hzero : P Record.zero 0) {s t : State}
    (hst : step s = .next t) : Carries P s t := by
  cases step_next hst with
  | pass => exact id
  | turn p _ hturn =>
    obtain ⟨m, hm, rfl⟩ := engineStep_next hturn
    exact carries_settle (h.runs hm) { s with port := p }
  | host op rest hp hc =>
    cases hc with
    | ctrl v => exact carries_ctrlWrite hzero v { s with port := rest }
    | clearDone | desc | byte | values => exact id

end Carried

/-! Zero unless valid (10_state R32). -/

/-- The result fields under a valid bit read 0. -/
def FieldsZero (r : Record) : VBit → Prop
  | .hdr => r.vpi = 0 ∧ r.gfc = 0 ∧ r.vci = 0 ∧ r.pt = 0 ∧ r.clp = 0 ∧ r.hec = 0
  | .a5Trailer => r.uu = 0 ∧ r.cpi = 0 ∧ r.len = 0 ∧ r.crc = 0 ∧ r.trailerSrc = 0
  | .a5Cells => r.a5Cells = 0 ∧ r.cellsSrc = 0
  | .a5Pad => r.padOff = 0 ∧ r.padLen = 0
  | .disp => r.dispTarget = .none ∧ r.dispOff = 0 ∧ r.dispLen = 0
  | .laneClient => r.laneClient = 0
  | .lecMarker => r.marker = 0
  | .lecProtocol => r.protocol = 0
  | .lecVersion => r.version = 0
  | .lecOpcode => r.opcode = 0 ∧ r.opclass = 0
  | .lecStatus => r.status = 0
  | .lecTransId => r.transId = 0
  | .lecReqLecId => r.reqLecId = 0
  | .lecFlags => r.flags = 0
  | .lecFlagRemote => r.remote = 0
  | .lecFlagV2 => r.v2Capable = 0
  | .lecBody => r.body = .none
  | .ld0 => r.ld0 = LanDest.zero
  | .ld1 => r.ld1 = LanDest.zero
  | .atm0 => r.atm0 = 0
  | .atm1 => r.atm1 = 0
  | .cjLanType => r.lanType = 0
  | .cjMaxFrame => r.maxFrame = 0
  | .numTlvs => r.numTlvs = 0
  | .cjNameSize => r.nameSize = 0 ∧ r.nameLen = 0
  | .cjName => r.name = 0
  | .tlvs => r.tlvsDone = 0 ∧ r.tlvs = []

/-- The rule of R32 as a property of the record and its valid bits. -/
def ZeroRule (r : Record) (v : BitVec 32) : Prop :=
  (∀ b : VBit, v.getLsbD b.index = false → FieldsZero r b) ∧ v.extractLsb' 27 5 = 0

theorem zeroUnlessValid_iff (s : State) : ZeroUnlessValid s ↔ ZeroRule s.r s.valid := by
  constructor
  · rintro ⟨hlow, hhigh, hres⟩
    refine ⟨fun b hb => ?_, hres⟩
    cases b
    case hdr => exact hlow.hdr hb
    case a5Trailer => exact hlow.a5Trailer hb
    case a5Cells => exact hlow.a5Cells hb
    case a5Pad => exact hlow.a5Pad hb
    case disp => exact hlow.disp hb
    case laneClient => exact hlow.laneClient hb
    case lecMarker => exact hlow.lecMarker hb
    case lecProtocol => exact hlow.lecProtocol hb
    case lecVersion => exact hlow.lecVersion hb
    case lecOpcode => exact hlow.lecOpcode hb
    case lecStatus => exact hlow.lecStatus hb
    case lecTransId => exact hlow.lecTransId hb
    case lecReqLecId => exact hlow.lecReqLecId hb
    case lecFlags => exact hlow.lecFlags hb
    case lecFlagRemote => exact hhigh.lecFlagRemote hb
    case lecFlagV2 => exact hhigh.lecFlagV2 hb
    case lecBody => exact hhigh.lecBody hb
    case ld0 => exact hhigh.ld0 hb
    case ld1 => exact hhigh.ld1 hb
    case atm0 => exact hhigh.atm0 hb
    case atm1 => exact hhigh.atm1 hb
    case cjLanType => exact hhigh.cjLanType hb
    case cjMaxFrame => exact hhigh.cjMaxFrame hb
    case numTlvs => exact hhigh.numTlvs hb
    case cjNameSize => exact hhigh.cjNameSize hb
    case cjName => exact hhigh.cjName hb
    case tlvs => exact hhigh.tlvs hb
  · rintro ⟨h, hres⟩
    exact ⟨⟨h .hdr, h .a5Trailer, h .a5Cells, h .a5Pad, h .disp, h .laneClient, h .lecMarker, h .lecProtocol,
        h .lecVersion, h .lecOpcode, h .lecStatus, h .lecTransId, h .lecReqLecId, h .lecFlags⟩,
      ⟨h .lecFlagRemote, h .lecFlagV2, h .lecBody, h .ld0, h .ld1, h .atm0, h .atm1, h .cjLanType, h .cjMaxFrame,
        h .numTlvs, h .cjNameSize, h .cjName, h .tlvs⟩, hres⟩

/-- A result write leaves the fields under every other valid bit alone. -/
theorem fieldsZero_of_write {c : Config} {b b' : VBit} {g : Record → Record} {r : Record} (hw : FieldWrite c b g)
    (hne : b' ≠ b) (h : FieldsZero r b') : FieldsZero (g r) b' := by
  cases hw with
  | ld i g =>
    by_cases hi : i = 0
    · subst hi
      cases b' with
      | ld0 => exact absurd rfl hne
      | _ => exact h
    · simp only [ldBit, if_neg hi] at hne
      simp only [Record.setLd, if_neg hi]
      cases b' with
      | ld1 => exact absurd rfl hne
      | _ => exact h
  | _ => cases b' <;> first | exact h | exact absurd rfl hne

/-- A valid bit reads 0 after another is set only if it did before. -/
theorem getLsbD_or_mask {v : BitVec 32} {b b' : VBit} (h : (v ||| b.mask).getLsbD b'.index = false) :
    b' ≠ b ∧ v.getLsbD b'.index = false := by
  refine ⟨fun heq => ?_, ?_⟩
  · subst heq
    rw [isValid_mask] at h
    cases h
  · rw [BitVec.getLsbD_or, Bool.or_eq_false_iff] at h
    exact h.1

theorem extractLsb'_or_mask (v : BitVec 32) (b : VBit) : (v ||| b.mask).extractLsb' 27 5 = v.extractLsb' 27 5 := by
  have hmask : b.mask.extractLsb' 27 5 = 0#5 := by cases b <;> rfl
  rw [BitVec.extractLsb'_or, hmask, BitVec.or_zero]

theorem zeroRule_keptByWrites (c : Config) : KeptByWrites c ZeroRule := by
  rintro b g r v hw ⟨hzero, hres⟩
  refine ⟨fun b' hb' => ?_, (extractLsb'_or_mask v b).trans hres⟩
  obtain ⟨hne, hv⟩ := getLsbD_or_mask hb'
  exact fieldsZero_of_write hw hne (hzero b' hv)

theorem zeroRule_zero : ZeroRule Record.zero 0 := by
  refine ⟨fun b _ => ?_, rfl⟩
  cases b <;> simp [FieldsZero, Record.zero]

/-- Settles O56: each result write sets the valid bit of the fields it writes and leaves the others alone, and START and
SOFT_RESET clear both. -/
theorem stepKeepsZeroUnlessValid : Obligations.StepKeepsZeroUnlessValid := by
  intro s t hs hst
  rw [zeroUnlessValid_iff] at hs ⊢
  exact (zeroRule_keptByWrites Config.aldb).step zeroRule_zero hst hs

end Sys2Proof.Proofs
end

section
/-! PROOFS. HostPort: what each register and buffer access of the host gives and changes (10_state R21 to R49, 20_memory
R60 to R62, 70_reset R280, R284, R285). -/

namespace Sys2Proof.Proofs

open Sys2Proof Sys2Proof.Machine Sys2Proof.Safety Sys2Proof.Laws

section Access

variable {c : Config} {s : State} {rest : List PortOp} {a : Nat} {v : Word} {x : Reg}

/-! Served accesses. -/

theorem stepIn_wr (hp : s.port = .wr a 4 v :: rest) (h4 : a % 4 = 0) (ha : a < 0xE00) :
    stepIn c s = .next (regWriteAt c a v { s with port := rest }) :=
  (stepOf_access _ _ hp nofun nofun).trans (regAccess_word h4 ha _)

theorem stepIn_rd (hp : s.port = .rd a 4 :: rest) (h4 : a % 4 = 0) (ha : a < 0xE00) :
    stepIn c s = .next (hostRd c a { s with port := rest }) :=
  (stepOf_access _ _ hp nofun nofun).trans (regAccess_word h4 ha _)

/-- The addresses of registers with a row of their own are aligned and inside the register space. -/
theorem regTable_address : ∀ p ∈ regTable, p.1 % 4 = 0 ∧ p.1 ≤ 0x0B4 := by decide

theorem stepIn_wr_reg (hx : (a, x) ∈ regTable) (hp : s.port = .wr a 4 v :: rest) :
    stepIn c s = .next (regWrite x v { s with port := rest }) := by
  obtain ⟨h4, ha⟩ := regTable_address _ hx
  rw [stepIn_wr hp h4 (Nat.lt_of_le_of_lt ha (by decide)), regWriteAt_of_some (regAt_of_mem c hx)]

theorem step_wr_reg (hx : (a, x) ∈ regTable) (hp : s.port = .wr a 4 v :: rest) :
    step s = .next (regWrite x v { s with port := rest }) := (step_eq_stepIn s).trans (stepIn_wr_reg hx hp)

theorem regWord_port (c : Config) (s : State) (rest : List PortOp) (x : Reg) :
    regWord c { s with port := rest } x = regWord c s x := by cases x <;> rfl

theorem hostRd_of_none (h : regAt c a = none) : hostRd c a s = { s with rdata := 0 } := by simp [hostRd, regRead, h]

/-- A register that gives its value: any while IDLE, and while BUSY those that are not open (70 R285). -/
theorem hostRd_of_some (h : regAt c a = some x) (hopen : s.phase = .idle ∨ x.openWhileBusy = false) :
    hostRd c a s = { s with rdata := regWord c s x } := by
  have hnot : ¬ (s.phase = .busy ∧ x.openWhileBusy = true) := by
    rintro ⟨hb, hx⟩
    rcases hopen with hi | hx'
    · exact Phase.noConfusion (hb.symm.trans hi)
    · exact Bool.noConfusion (hx.symm.trans hx')
  simp only [hostRd, regRead, h, if_neg hnot]

theorem hostRd_open (h : regAt c a = some x) (hb : s.phase = .busy) (hopen : x.openWhileBusy = true) :
    hostRd c a s = { s with rdata := Config.busyRead s.freeCount, freeCount := s.freeCount + 1 } := by
  simp only [hostRd, regRead, h, if_pos (And.intro hb hopen)]

theorem stepIn_rd_value (hx : regAt c a = some x) (h4 : a % 4 = 0) (ha : a < 0xE00)
    (hopen : s.phase = .idle ∨ x.openWhileBusy = false) {n : Nat} (hn : regWord c s x = BitVec.ofNat 32 n)
    (hp : s.port = .rd a 4 :: rest) : stepIn c s = .next { s with port := rest, rdata := BitVec.ofNat 32 n } := by
  rw [stepIn_rd hp h4 ha, hostRd_of_some (s := { s with port := rest }) hx hopen, regWord_port, hn]

/-- A read of a register with a row of its own, by the number its fields pack to. -/
theorem step_rd_reg (hx : (a, x) ∈ regTable) (hopen : s.phase = .idle ∨ x.openWhileBusy = false) {n : Nat}
    (hn : (regWord Config.aldb s x).toNat = n) (hp : s.port = .rd a 4 :: rest) :
    step s = .next { s with port := rest, rdata := BitVec.ofNat 32 n } := by
  obtain ⟨h4, ha⟩ := regTable_address _ hx
  have hword : regWord Config.aldb s x = BitVec.ofNat 32 n := by rw [← hn, BitVec.ofNat_toNat, BitVec.setWidth_eq]
  exact (step_eq_stepIn s).trans
    (stepIn_rd_value (regAt_of_mem _ hx) h4 (Nat.lt_of_le_of_lt ha (by decide)) hopen hword hp)

/-! The register map past the table. -/

theorem lookup_regTable_above (ha : 0x0B4 < a) : regTable.lookup a = none := by
  cases h : regTable.lookup a with
  | none => rfl
  | some x => exact absurd (regTable_address _ (mem_regTable_of_lookup h)).2 (Nat.not_le.mpr ha)

theorem regAt_above (ha : 0x0B4 < a) :
    regAt c a =
      if 0x0C0 ≤ a ∧ a ≤ 0x0D0 then some (.atm0 ((a - 0x0C0) / 4))
      else if 0x0E0 ≤ a ∧ a ≤ 0x0F0 then some (.atm1 ((a - 0x0E0) / 4))
      else if 0x100 ≤ a ∧ a ≤ 0x11C then some (.name ((a - 0x100) / 4))
      else if 0x200 ≤ a ∧ a < 0x200 + 12 * c.tlvSlots then some (.tlv ((a - 0x200) / 12) ((a - 0x200) % 12 / 4))
      else none := by rw [regAt, lookup_regTable_above ha]

/-- Only the addresses of 10_state section 2 name a register. -/
theorem namedAddress_of_regAt (h : regAt Config.aldb a = some x) : namedAddress a := by
  have htable : ∀ p ∈ regTable, namedAddress p.1 := by unfold namedAddress; decide
  by_cases ha : 0x0B4 < a
  · rw [regAt_above ha, aldb_tlvSlots] at h
    unfold namedAddress
    split_ifs at h <;> omega
  · unfold regAt at h
    split at h
    · next hl => exact htable _ (mem_regTable_of_lookup hl)
    · split_ifs at h <;> omega

/-- An aligned result register, R_VALID and ERR_OFFSET read any value while BUSY (70 R285). -/
theorem openWhileBusy_of_named (hname : namedAddress a) (h4 : a % 4 = 0) (ha : a = 0x008 ∨ 0x040 ≤ a) :
    ∃ x, regAt Config.aldb a = some x ∧ x.openWhileBusy = true := by
  by_cases habove : 0x0B4 < a
  · rw [regAt_above habove, aldb_tlvSlots]
    unfold namedAddress at hname
    split_ifs with h1 h2 h3 h4
    · exact ⟨_, rfl, rfl⟩
    · exact ⟨_, rfl, rfl⟩
    · exact ⟨_, rfl, rfl⟩
    · exact ⟨_, rfl, rfl⟩
    · omega
  · have hall : ∀ k < 46, k = 2 ∨ k = 16 ∨ 18 ≤ k ∧ k ≤ 29 ∨ 32 ≤ k →
        ∃ p ∈ regTable, p.1 = 4 * k ∧ p.2.openWhileBusy = true := by decide
    have hmem : ∃ p ∈ regTable, p.1 = a ∧ p.2.openWhileBusy = true := by
      obtain ⟨k, rfl⟩ : ∃ k, a = 4 * k := ⟨a / 4, by omega⟩
      unfold namedAddress at hname
      exact hall k (by omega) (by omega)
    obtain ⟨⟨k, x⟩, hx, rfl, hopen⟩ := hmem
    exact ⟨x, regAt_of_mem _ hx, hopen⟩

end Access

/-! Writes (10_state R21 to R30, 70 R280, R285). -/

theorem ctrlWrite_reset {v : Word} (h : v.getLsbD 1 = true) (s : State) : ctrlWrite v s = s.softReset := if_pos h

theorem ctrlWrite_start {v : Word} {s : State} (hr : v.getLsbD 1 = false) (hs : v.getLsbD 0 = true)
    (hi : s.phase = .idle) : ctrlWrite v s = ({ s with irqEn := v.getLsbD 2 }).start := by
  simp only [ctrlWrite, hr, hs, hi, Bool.false_eq_true, if_false, and_self, if_true]

theorem ctrlWrite_plain {v : Word} {s : State} (hr : v.getLsbD 1 = false)
    (hs : v.getLsbD 0 = false ∨ s.phase = .busy) : ctrlWrite v s = { s with irqEn := v.getLsbD 2 } := by
  have hnot : ¬ (v.getLsbD 0 = true ∧ s.phase = .idle) := by
    rintro ⟨h0, hi⟩
    rcases hs with hs | hs
    · exact Bool.noConfusion (hs.symm.trans h0)
    · exact Phase.noConfusion (hs.symm.trans hi)
  simp only [ctrlWrite, hr, Bool.false_eq_true, if_false, if_neg hnot]

theorem step_ctrl {s : State} {rest : List PortOp} {v : Word} (hp : s.port = .wr 0x000 4 v :: rest) :
    step s = .next (ctrlWrite v { s with port := rest }) := step_wr_reg (x := .ctrl) (by decide) hp

theorem step_status {s : State} {rest : List PortOp} {v : Word} (hp : s.port = .wr 0x004 4 v :: rest) :
    step s = .next { s with port := rest, done := s.done && !v.getLsbD 1 } := by
  rw [step_wr_reg (x := .status) (by decide) hp, regWrite]
  cases v.getLsbD 1 <;> simp [clearDone_eq]

/-- Settles O36: the write's one effect, by its bits. -/
theorem controlAndStatusWrites : Obligations.ControlAndStatusWrites := by
  refine fun s rest v => ⟨fun hp hr hs => ?_, step_status⟩
  rw [step_ctrl hp, ctrlWrite_plain (s := { s with port := rest }) hr hs]

theorem step_descWrite {s : State} {rest : List PortOp} {a : Nat} {x : Reg} {v : Word} {g : Descriptor → Descriptor}
    (hx : (a, x) ∈ regTable) (hw : ∀ t, regWrite x v t = descWrite g t) (hp : s.port = .wr a 4 v :: rest) :
    step s = .next (if s.phase = .busy then { s with port := rest } else { s with port := rest, desc := g s.desc }) := by
  rw [step_wr_reg hx hp, hw, descWrite]

theorem and_one_eq (v : Word) : v &&& 1#32 = BitVec.ofNat 32 (v.toNat % 2) := by
  apply BitVec.eq_of_toNat_eq
  have hone : (v &&& 1#32).toNat = v.toNat % 2 := (BitVec.toNat_and _ _).trans (Nat.and_one_is_mod _)
  rw [hone, BitVec.toNat_ofNat]
  omega

/-- Settles O38: each of the seven registers goes through the one guarded write. -/
theorem descriptorWrites : Obligations.DescriptorWrites := by
  intro s rest v
  simp only [List.forall_mem_cons]
  refine ⟨?_, ?_, ?_, ?_, ?_, ?_, ?_, nofun⟩
  · exact step_descWrite (x := .dCapLen) (g := fun d => { d with capLen := v }) (by decide) fun _ => rfl
  · exact step_descWrite (x := .dRepLen) (g := fun d => { d with repLen := v }) (by decide) fun _ => rfl
  · exact step_descWrite (x := .dClass) (g := fun d => { d with cls := v }) (by decide) fun _ => rfl
  · rw [← and_one_eq]
    exact step_descWrite (x := .dFlags) (g := fun d => { d with flags := v &&& 1#32 }) (by decide) fun _ => rfl
  · exact step_descWrite (x := .dCellCount) (g := fun d => { d with cellCount := v }) (by decide) fun _ => rfl
  · exact step_descWrite (x := .dMetaA) (g := fun d => { d with metaA := v }) (by decide) fun _ => rfl
  · exact step_descWrite (x := .dMetaCrc) (g := fun d => { d with metaCrc := v }) (by decide) fun _ => rfl

/-- Settles O39: a writable register stands at a listed address, and a register's address is a named one. -/
theorem otherWritesIgnored : Obligations.OtherWritesIgnored := by
  refine fun s rest a v h4 ha => ⟨fun hp hctrl hstatus hdesc => ?write, fun hp hname => ?read⟩
  case write =>
    rw [step_eq_stepIn, stepIn_wr hp h4 ha]
    cases hx : regAt Config.aldb a with
    | none => rw [regWriteAt_of_none hx]
    | some x =>
      have hw : x ∉ writableRegs := by
        intro hw
        rcases address_of_writable hx hw with ⟨-, h⟩ | ⟨-, h⟩ | ⟨-, -, h⟩
        · exact hctrl h
        · exact hstatus h
        · exact hdesc h
      rw [regWriteAt_of_some hx, regWrite_of_not_writable hw]
  case read =>
    have hnone : regAt Config.aldb a = none := by
      cases hx : regAt Config.aldb a with
      | none => rfl
      | some x => exact absurd (namedAddress_of_regAt hx) hname
    rw [step_eq_stepIn, stepIn_rd hp h4 ha, hostRd_of_none hnone]

/-! Reset (70 R280). -/

theorem idle_beq_busy : (Phase.idle == Phase.busy) = false := rfl

/-- Every register of an engine at its reset values reads 0. -/
theorem regWord_reset (s : State) (x : Reg) : regWord Config.aldb s.softReset x = 0 := by
  cases x with
  | ld i k =>
    have hld : Record.zero.ld i = LanDest.zero := by unfold Record.ld; split <;> rfl
    show ldWord (Record.zero.ld i) k = 0
    rw [hld, ldWord]
    split_ifs <;> rfl
  | atm0 k | atm1 k | name k => exact BitVec.extractLsb'_zero ..
  | tlv k w =>
    show tlvWord TlvRec.zero w = 0
    unfold tlvWord
    split_ifs <;> rfl
  | status => simp [regWord, statusWord, ErrUnit.code, ErrKind.code, idle_beq_busy]
  | config => rfl
  | _ => simp [regWord, Record.zero, Descriptor.zero, Target.code, BodyKind.code]

theorem readsZero_softReset (s : State) {a : Nat} (h4 : a % 4 = 0) (ha : a < 0xE00) : readsZero s.softReset a := by
  unfold readsZero
  rw [step_eq_stepIn, stepIn_rd rfl h4 ha]
  cases hx : regAt Config.aldb a with
  | none => rw [hostRd_of_none hx]
  | some x =>
    rw [hostRd_of_some hx (.inl rfl), regWord_port, regWord_port, regWord_reset]

theorem resetValues_softReset (s : State) : ResetValues s.softReset where
  irqEn := rfl
  phase := rfl
  done := rfl
  errCode := rfl
  errUnit := rfl
  errOffset := rfl
  desc := rfl
  dl := rfl
  valid := rfl
  cur := rfl
  lim := rfl
  reads _ := readsZero_softReset s

/-- Settles O37: the write is the reset, whose registers all read 0. -/
theorem softResetResult : Obligations.SoftResetResult := by
  intro s rest v hp hr
  have hstep : step s = .next ({ s with port := rest }).softReset := by rw [step_ctrl hp, ctrlWrite_reset hr]
  refine ⟨hstep, fun t ht => ?_⟩
  obtain rfl := Host.Outcome.next.inj (hstep.symm.trans ht)
  exact resetValues_softReset _

theorem inv_reset : Inv State.reset where
  buf := reset_buf_wf
  busyClean := nofun
  errPair := ⟨fun _ => rfl, fun _ => rfl⟩
  errOffset _ := rfl
  lim := by decide
  limLatch := nofun
  cur := by decide
  flags := rfl
  vpi := rfl
  opclass := by decide
  nameLen := by decide
  tlvsDone := by decide
  tlvSlots := by decide
  idle _ := rfl
  unit := nofun

/-- Settles O54: power-on is a SOFT_RESET of itself, and the cleared record obeys R32. -/
theorem invHoldsAtReset : Obligations.InvHoldsAtReset :=
  ⟨resetValues_softReset State.reset, inv_reset, (zeroUnlessValid_iff _).mpr zeroRule_zero⟩

/-! Reads (10_state R22 to R46). -/

theorem configWord_toNat (c : Config) :
    (configWord c).toNat = (if c.cjLayout = .standard then 1 else 0) + (if c.gfcNibble = .high then 2 else 0) := by
  unfold configWord
  cases c.cjLayout <;> cases c.gfcNibble <;> rfl

/-- Settles O46: CONFIG is a register with a row of its own that no write changes. -/
theorem configRegister : Obligations.ConfigRegister := by
  have hmem : ((0x00C, .config) : Nat × Reg) ∈ regTable := by decide
  refine ⟨configWord_toNat, fun c s rest hp => ?read, fun c s rest v hp => stepIn_wr_reg hmem hp,
    fun s rest => step_rd_reg hmem (.inr rfl) rfl, fun s rest v hp => step_wr_reg hmem hp⟩
  have hword : regWord c s .config = BitVec.ofNat 32 (configWord c).toNat := by simp [regWord]
  rw [configWord_toNat] at hword
  exact stepIn_rd_value (regAt_of_mem c hmem) rfl (by decide) (.inr rfl) hword hp

/-- Fields side by side pack as a sum. -/
theorem toNat_append_eq_add {m n : Nat} (x : BitVec m) (y : BitVec n) :
    (x ++ y).toNat = y.toNat + 2 ^ n * x.toNat := by
  rw [BitVec.toNat_append, Nat.shiftLeft_eq, Nat.mul_comm, ← Nat.two_pow_add_eq_or_of_lt y.isLt, Nat.add_comm]

/-- Settles O40: each register's word as the sum of its fields at their bit places. -/
theorem scalarRegisterReads : Obligations.ScalarRegisterReads := by
  refine ⟨by decide, by decide, by decide, by decide, fun s rest hidle => ?_⟩
  have hrd : ∀ {a : Nat} (x : Reg) {n : Nat}, (a, x) ∈ regTable → (regWord Config.aldb s x).toNat = n →
      s.port = .rd a 4 :: rest → step s = .next { s with port := rest, rdata := BitVec.ofNat 32 n } :=
    fun x n hx hn hp => step_rd_reg hx (.inl hidle) hn hp
  simp only [List.forall_mem_cons]
  refine ⟨hrd .ctrl (by decide) ?_, hrd .status (by decide) ?_, hrd .errOffset (by decide) rfl,
    hrd .config (by decide) rfl, hrd .dCapLen (by decide) rfl, hrd .dRepLen (by decide) rfl, hrd .dClass (by decide) rfl,
    hrd .dFlags (by decide) rfl, hrd .dCellCount (by decide) rfl, hrd .dMetaA (by decide) rfl,
    hrd .dMetaCrc (by decide) rfl, hrd .valid (by decide) rfl, hrd .disp (by decide) ?_, hrd .dispOff (by decide) rfl,
    hrd .dispLen (by decide) rfl, hrd .hdr0 (by decide) ?_, hrd .hdr1 (by decide) ?_, hrd .a5Cells (by decide) rfl,
    hrd .a5Trl (by decide) ?_, hrd .a5Crc (by decide) rfl, hrd .a5PadOff (by decide) rfl, hrd .a5PadLen (by decide) rfl,
    hrd .a5Info (by decide) ?_, hrd .laneClient (by decide) ?_, hrd .lec0 (by decide) ?_, hrd .lec1 (by decide) ?_,
    hrd .lecStatus (by decide) ?_, hrd .lecTransId (by decide) rfl, hrd .lec2 (by decide) ?_,
    hrd .lecFlagbits (by decide) ?_, hrd .cj (by decide) ?_, hrd .tlvInfo (by decide) ?_, nofun⟩
  all_goals refine (toNat_append_eq_add _ _).trans ?_
  all_goals
    simp only [toNat_append_eq_add, BitVec.toNat_ofNat, BitVec.toNat_ofBool, hidle, idle_beq_busy, Bool.toNat_false]
  all_goals omega

/-- A slice of bits as a quotient of the number. -/
theorem extractLsb'_eq_ofNat {w : Nat} (x : BitVec w) (k n : Nat) :
    x.extractLsb' k n = BitVec.ofNat n (x.toNat / 2 ^ k) := by
  rw [BitVec.extractLsb', Nat.shiftRight_eq_div_pow]

/-- A read of a packed register, by the number its fields pack to. -/
theorem step_rd_packed {s : State} {rest : List PortOp} {a n : Nat} {x : Reg} (hi : s.phase = .idle)
    (hp : s.port = .rd a 4 :: rest) (hx : regAt Config.aldb a = some x) (h4 : a % 4 = 0) (ha : a < 0xE00)
    (hn : regWord Config.aldb s x = BitVec.ofNat 32 n) :
    step s = .next { s with port := rest, rdata := BitVec.ofNat 32 n } :=
  (step_eq_stepIn s).trans (stepIn_rd_value hx h4 ha (.inl hi) hn hp)

/-- The three words of a LAN destination result (10_state R39). -/
theorem ldWord_zero (v : LanDest) : ldWord v 0 = BitVec.ofNat 32 (v.tag.toNat + 2 ^ 16 * v.kind.code.toNat) := by
  have h : (ldWord v 0).toNat = v.tag.toNat + 2 ^ 16 * v.kind.code.toNat := by
    refine (toNat_append_eq_add _ _).trans ?_
    simp only [toNat_append_eq_add, BitVec.toNat_ofNat]
    omega
  rw [← h, BitVec.ofNat_toNat, BitVec.setWidth_eq]

theorem ldWord_one (v : LanDest) : ldWord v 1 = BitVec.ofNat 32 (v.mac.toNat / 2 ^ 16) := extractLsb'_eq_ofNat _ _ _

theorem ldWord_two (v : LanDest) :
    ldWord v 2 = BitVec.ofNat 32 (v.mac.toNat % 2 ^ 16 + 2 ^ 16 * v.lanId.toNat + 2 ^ 28 * v.bridge.toNat) := by
  have h : (ldWord v 2).toNat = v.mac.toNat % 2 ^ 16 + 2 ^ 16 * v.lanId.toNat + 2 ^ 28 * v.bridge.toNat := by
    refine (toNat_append_eq_add _ _).trans ?_
    simp only [toNat_append_eq_add, BitVec.extractLsb'_toNat, Nat.shiftRight_zero]
    omega
  rw [← h, BitVec.ofNat_toNat, BitVec.setWidth_eq]

/-- The three words of a TLV slot (10_state R45). -/
theorem regAt_tlv {k w : Nat} (hk : k < 255) (hw : w < 3) :
    regAt Config.aldb (0x200 + 12 * k + 4 * w) = some (.tlv k w) := by
  rw [regAt_above (by omega), aldb_tlvSlots, if_neg (by omega), if_neg (by omega), if_neg (by omega),
    if_pos (by omega)]
  congr 2 <;> omega

theorem tlvWord_one (t : TlvRec) : tlvWord t 1 = BitVec.ofNat 32 t.len.toNat := by simp [tlvWord]

/-- Settles O41: the register at each address, and its word as the packing of the field it belongs to. -/
theorem packedRegisterReads : Obligations.PackedRegisterReads := by
  refine ⟨by decide, fun s rest a w k hi hp h => ?_⟩
  have hrd : ∀ {x : Reg}, regAt Config.aldb a = some x → a % 4 = 0 ∧ a < 0xE00 →
      regWord Config.aldb s x = BitVec.ofNat 32 w →
      step s = .next { s with port := rest, rdata := BitVec.ofNat 32 w } :=
    fun hx ha hn => step_rd_packed hi hp hx ha.1 ha.2 hn
  have hself : ∀ v : Word, v = BitVec.ofNat 32 v.toNat := fun v => by simp
  rcases h with ⟨rfl, rfl⟩ | ⟨rfl, rfl⟩ | ⟨rfl, rfl⟩ | ⟨rfl, rfl⟩ | ⟨rfl, rfl⟩ | ⟨rfl, rfl⟩ |
    ⟨hk, rfl, rfl⟩ | ⟨hk, rfl, rfl⟩ | ⟨hk, rfl, rfl⟩ | ⟨hk, rfl, rfl⟩ | ⟨hk, rfl, rfl⟩ | ⟨hk, rfl, rfl⟩
  · exact hrd (x := .ld 0 0) rfl (by decide) (ldWord_zero _)
  · exact hrd (x := .ld 0 1) rfl (by decide) (ldWord_one _)
  · exact hrd (x := .ld 0 2) rfl (by decide) (ldWord_two _)
  · exact hrd (x := .ld 1 0) rfl (by decide) (ldWord_zero _)
  · exact hrd (x := .ld 1 1) rfl (by decide) (ldWord_one _)
  · exact hrd (x := .ld 1 2) rfl (by decide) (ldWord_two _)
  · have hx : regAt Config.aldb (0x0C0 + 4 * k) = some (.atm0 k) := by interval_cases k <;> rfl
    exact hrd hx (by omega) (extractLsb'_eq_ofNat _ _ _)
  · have hx : regAt Config.aldb (0x0E0 + 4 * k) = some (.atm1 k) := by interval_cases k <;> rfl
    exact hrd hx (by omega) (extractLsb'_eq_ofNat _ _ _)
  · have hx : regAt Config.aldb (0x100 + 4 * k) = some (.name k) := by interval_cases k <;> rfl
    exact hrd hx (by omega) (extractLsb'_eq_ofNat _ _ _)
  · exact hrd (regAt_tlv (w := 0) hk (by decide)) (by omega) (hself _)
  · have hx := regAt_tlv (w := 1) hk (by decide)
    rw [show 0x200 + 12 * k + 4 * 1 = 0x204 + 12 * k by omega] at hx
    exact hrd hx (by omega) (tlvWord_one _)
  · have hx := regAt_tlv (w := 2) hk (by decide)
    rw [show 0x200 + 12 * k + 4 * 2 = 0x208 + 12 * k by omega] at hx
    exact hrd hx (by omega) (hself _)

/-- Settles O42: STATUS and the descriptor keep their values, and every other register reads a free value. -/
theorem readsWhileBusy : Obligations.ReadsWhileBusy := by
  intro s rest hinv hb
  have hrd : ∀ {a : Nat} (x : Reg) {n : Nat}, (a, x) ∈ regTable → x.openWhileBusy = false →
      (regWord Config.aldb s x).toNat = n → s.port = .rd a 4 :: rest →
      step s = .next { s with port := rest, rdata := BitVec.ofNat 32 n } :=
    fun x n hx hopen hn hp => step_rd_reg hx (.inr hopen) hn hp
  refine ⟨?status, ?kept, fun a h4 hname ha hp => ?free⟩
  case status =>
    obtain ⟨hd, he⟩ := hinv.busyClean hb
    have hu := hinv.errPair.mp he
    exact hrd .status (by decide) rfl (by simp [regWord, statusWord, hb, hd, he, hu, ErrKind.code, ErrUnit.code])
  case kept =>
    simp only [List.forall_mem_cons]
    refine ⟨hrd .ctrl (by decide) rfl ?_, hrd .config (by decide) rfl rfl, hrd .dCapLen (by decide) rfl rfl,
      hrd .dRepLen (by decide) rfl rfl, hrd .dClass (by decide) rfl rfl, hrd .dFlags (by decide) rfl rfl,
      hrd .dCellCount (by decide) rfl rfl, hrd .dMetaA (by decide) rfl rfl, hrd .dMetaCrc (by decide) rfl rfl, nofun⟩
    refine (toNat_append_eq_add _ _).trans ?_
    simp only [toNat_append_eq_add, BitVec.toNat_ofNat, BitVec.toNat_ofBool]
    omega
  case free =>
    obtain ⟨x, hx, hopen⟩ := openWhileBusy_of_named hname h4 ha
    have hlt : a < 0xE00 := by unfold namedAddress at hname; omega
    rw [step_eq_stepIn, stepIn_rd hp h4 hlt, hostRd_open (s := { s with port := rest }) hx hb hopen]

/-- Settles O44: a byte written is the byte read, and each port stops at its bound. -/
theorem bufferPortAndBounds : Obligations.BufferPortAndBounds := by
  intro s rest o b v
  have haccess : ∀ op, s.port = op :: rest → op ≠ .tick → op ≠ .wait →
      step s = hostAccess Config.aldb op { s with port := rest } := fun op hp => stepOf_access _ _ hp
  refine ⟨fun hp ho hi => ⟨Memory.write s.buf o b, ?write, read_write_same _ _ _, fun a ha => read_write_other _ _ ha,
    fun hwf => write_keeps_wf hwf ho⟩, fun hp ho hb => ?busy, fun hp ho => ?read, fun hp ho => ?bufOutside,
    fun hp h4 ho => ?regOutside⟩
  case write => simp [haccess _ hp, hostAccess, hostBufWr, hi, Nat.not_le.mpr ho]
  case busy => simp [haccess _ hp, hostAccess, hostBufWr, hb, Nat.not_le.mpr ho]
  case read => simp [haccess _ hp, hostAccess, hostBufRd, Nat.not_le.mpr ho, byteAt]
  case bufOutside =>
    rcases hp with hp | hp
    · simp [haccess _ hp, hostAccess, hostBufWr, ho]
    · simp [haccess _ hp, hostAccess, hostBufRd, ho]
  case regOutside =>
    rcases hp with hp | hp | hp
    all_goals exact (haccess _ hp nofun nofun).trans (regAccess_outside h4 ho _)

end Sys2Proof.Proofs
end

section
/-! PROOFS. Phases: what the engine's turn does to the phase, DONE and the error, and so when irq moves (60 R260, R263,
R267, R268; 10_state R42). -/

namespace Sys2Proof.Proofs

open Sys2Proof Sys2Proof.Machine Sys2Proof.Safety Sys2Proof.Laws

/-! What every update and the raise of an error respect, the engine's turn respects. -/

section Turn

variable {I : State → State → Prop}

theorem Respected.settle (h : Respected I) (herr : ∀ s e, I s (s.takeError e)) {m : Dec Unit} (hm : Leaves I m)
    (s : State) : I s (settle (m s)) := by
  have hs := hm s
  cases hr : m s with
  | ok a t => rwa [hr] at hs
  | error e t =>
    rw [hr] at hs
    exact h.trans _ _ _ hs (herr t e)

theorem Respected.leaves_runs (h : Respected I) {s : State} {m : Dec Unit} (hm : Runs s m) : Leaves I m := by
  cases hm with
  | jobCell => exact h.leaves_rowIn _ .jobCell
  | jobPduTrunc => exact h.leaves_rowIn _ .jobPduTrunc
  | jobPduTail => exact h.leaves_rowIn _ .jobPduTail
  | jobPduCut => exact h.leaves_rowIn _ .jobPduCut
  | pduHandOn | laneHandOn => exact h.leaves_handOn _ _ _
  | laneSplit => exact h.leaves_laneSplit _ _
  | laneData => exact h.leaves_laneData _ _ _
  | laneLe => exact h.leaves_laneLe _ _
  | leControl => exact h.leaves_leControl _ _ _
  | leShort => exact h.leaves_leOpening _ _ _
  | noBody => exact h.leaves_finish
  | cjBody => exact h.leaves_cjBody _ _
  | regBody => exact h.leaves_regBody _ _
  | arpBody => exact h.leaves_arpBody _ _
  | verifyBody => exact h.leaves_verifyBody _
  | flushBody => exact h.leaves_flushBody _ _
  | tlvWalk => exact h.leaves_tlvWalkEnd _ _

theorem Respected.engineStep (h : Respected I) (herr : ∀ s e, I s (s.takeError e)) {s t : State}
    (hst : engineStep Config.aldb exec s = .next t) : I s t := by
  obtain ⟨m, hm, rfl⟩ := engineStep_next hst
  exact h.settle herr (h.leaves_runs hm) s

end Turn

/-! The engine's frame (20_memory R60, R61). -/

theorem engineFrame_takeError (s : State) (e : JobError) : EngineFrame s (s.takeError e) :=
  ⟨rfl, rfl, rfl, rfl, rfl, rfl, rfl, rfl⟩

theorem keepsValid_respected : Respected keepsValid where
  refl s := BitVec.and_self
  trans s t u hst htu := by
    unfold keepsValid at *
    rw [← hst, BitVec.and_assoc, htu]
  record s r := BitVec.and_self
  setV s b := by
    unfold keepsValid
    rw [setV_valid]
    ext i
    simp +contextual
  place s u lim cur := BitVec.and_self
  endJob s := BitVec.and_self

/-- Settles O51: the frame and the valid bits are kept by every update that a row makes. -/
theorem everyRowKeepsEngineFrame : Obligations.EveryRowKeepsEngineFrame := fun i s =>
  ⟨_, exec_eq i s, engineFrame_settle (engineFrame_respected.leaves_rowIn _ i) s,
    keepsValid_respected.settle (fun _ _ => BitVec.and_self) (keepsValid_respected.leaves_rowIn _ i) s⟩

/-! The phase, DONE and the error over the engine's turn. -/

/-- How a job moves the status: a running job has touched neither DONE nor the error, and its end sets DONE. -/
structure StatusMoves (s t : State) : Prop where
  running : t.phase = .busy → s.phase = .busy ∧ t.done = s.done ∧ t.errCode = s.errCode ∧ t.errUnit = s.errUnit ∧
    t.errOffset = s.errOffset
  done : s.done = true → t.done = true
  ended : t.phase = .idle → s.phase = .idle ∨ t.done = true

theorem statusMoves_respected : Respected StatusMoves where
  refl s := ⟨fun h => ⟨h, rfl, rfl, rfl, rfl⟩, id, .inl⟩
  trans s t u hst htu := by
    refine ⟨fun hu => ?_, htu.done ∘ hst.done, fun hu => ?_⟩
    · obtain ⟨ht, hd, hc, hun, ho⟩ := htu.running hu
      obtain ⟨hs, hd', hc', hun', ho'⟩ := hst.running ht
      exact ⟨hs, hd.trans hd', hc.trans hc', hun.trans hun', ho.trans ho'⟩
    · rcases htu.ended hu with ht | hd
      · exact (hst.ended ht).imp_right htu.done
      · exact .inr hd
  record s r := ⟨fun h => ⟨h, rfl, rfl, rfl, rfl⟩, id, .inl⟩
  setV s b := ⟨fun h => ⟨h, rfl, rfl, rfl, rfl⟩, id, .inl⟩
  place s u lim cur := ⟨fun h => ⟨h, rfl, rfl, rfl, rfl⟩, id, .inl⟩
  endJob s := ⟨nofun, fun _ => rfl, fun _ => .inr rfl⟩

theorem statusMoves_engineStep {s t : State} (h : engineStep Config.aldb exec s = .next t) : StatusMoves s t :=
  statusMoves_respected.engineStep (fun _ _ => ⟨nofun, fun _ => rfl, fun _ => .inr rfl⟩) h

theorem engineFrame_engineStep {s t : State} (h : engineStep Config.aldb exec s = .next t) : EngineFrame s t :=
  engineFrame_respected.engineStep engineFrame_takeError h

/-! The three things a CTRL write can be (10_state R22). -/

theorem ctrlWrite_cases (v : Word) (s : State) :
    (v.getLsbD 1 = true ∧ ctrlWrite v s = s.softReset) ∨
    (v.getLsbD 1 = false ∧ v.getLsbD 0 = true ∧ s.phase = .idle ∧
      ctrlWrite v s = ({ s with irqEn := v.getLsbD 2 }).start) ∨
    ((v.getLsbD 0 = false ∨ s.phase = .busy) ∧ ctrlWrite v s = { s with irqEn := v.getLsbD 2 }) := by
  cases hr : v.getLsbD 1
  · by_cases hs : v.getLsbD 0 = true ∧ s.phase = .idle
    · exact .inr (.inl ⟨rfl, hs.1, hs.2, ctrlWrite_start hr hs.1 hs.2⟩)
    · have hplain : v.getLsbD 0 = false ∨ s.phase = .busy := by
        cases hp : s.phase <;> cases h0 : v.getLsbD 0 <;> simp_all
      exact .inr (.inr ⟨hplain, ctrlWrite_plain hr hplain⟩)
  · exact .inl ⟨rfl, ctrlWrite_reset hr s⟩

theorem phase_stays {s t : State} (h : t.phase = s.phase) {P Q : Prop} :
    (s.phase = .idle → t.phase = .busy → P) ∧ (s.phase = .busy → t.phase = .idle → Q) :=
  ⟨fun hi hb => Phase.noConfusion (hi.symm.trans (h.symm.trans hb)),
    fun hb hi => Phase.noConfusion (hi.symm.trans (h.trans hb))⟩

/-- Settles O48: of the changes a step can make, only a job's end and a CTRL write move the phase. -/
theorem phaseMoves : Obligations.PhaseMoves := by
  intro s t hst
  cases step_next hst with
  | pass p => exact phase_stays rfl
  | turn p hb hturn =>
    refine ⟨fun hi => Phase.noConfusion (hi.symm.trans hb), fun _ hi => .inl ?_⟩
    rcases (statusMoves_engineStep hturn).ended hi with hs | hd
    · exact Phase.noConfusion (hs.symm.trans hb)
    · exact hd
  | host op rest hp hc =>
    cases hc with
    | ctrl v hop =>
      subst hop
      rcases ctrlWrite_cases v { s with port := rest } with ⟨hr, ht⟩ | ⟨hr, h0, hi, ht⟩ | ⟨-, ht⟩ <;> rw [ht]
      · exact ⟨nofun, fun _ _ => .inr ⟨v, rest, hp, hr⟩⟩
      · exact ⟨fun _ _ => ⟨v, rest, hp, h0, hr⟩, nofun⟩
      · exact phase_stays rfl
    | clearDone | desc | byte | values => exact phase_stays rfl

/-! The interrupt (60 R267). -/

/-- irq rises by a job's end, or by a CTRL write that enables it with DONE already 1. -/
theorem irq_rise {s t : State} (hst : step s = .next t) (hlow : s.irq = false) (hhigh : t.irq = true) :
    (s.phase = .busy ∧ t.phase = .idle) ∨
    (s.done = true ∧ ∃ v rest, s.port = .wr 0x000 4 v :: rest ∧ v.getLsbD 2 = true) := by
  have hkept : t.irq = s.irq → False := fun h => Bool.noConfusion (hlow.symm.trans (h.symm.trans hhigh))
  cases step_next hst with
  | pass p => exact (hkept rfl).elim
  | turn p hb hturn =>
    cases ht : t.phase with
    | idle => exact .inl ⟨hb, rfl⟩
    | busy =>
      obtain ⟨-, hd, -⟩ := (statusMoves_engineStep hturn).running ht
      have hen : t.irqEn = s.irqEn := (engineFrame_engineStep hturn).irqEn
      exact (hkept (by rw [State.irq, State.irq, hd, hen])).elim
  | host op rest hp hc =>
    cases hc with
    | ctrl v hop =>
      subst hop
      rcases ctrlWrite_cases v { s with port := rest } with ⟨-, ht⟩ | ⟨-, -, -, ht⟩ | ⟨-, ht⟩ <;> rw [ht] at hhigh
      · exact absurd hhigh (by simp)
      · exact absurd hhigh (by simp)
      · obtain ⟨hd, hen⟩ := Bool.and_eq_true_iff.mp hhigh
        exact .inr ⟨hd, v, rest, hp, hen⟩
    | clearDone => exact absurd hhigh (by simp)
    | desc | byte | values => exact (hkept rfl).elim

/-- A step that ends a job has set DONE, or it is a SOFT_RESET, after which IRQ_EN is 0. -/
theorem irq_of_end {s t : State} (hst : step s = .next t) (hb : s.phase = .busy) (hi : t.phase = .idle)
    (hen : t.irqEn = true) : t.irq = true := by
  rcases (phaseMoves s t hst).2 hb hi with hd | ⟨v, rest, hp, hr⟩
  · rw [State.irq, hd, hen, Bool.and_self]
  · rw [step_ctrl hp, ctrlWrite_reset hr] at hst
    cases hst
    exact Bool.noConfusion hen

/-- A CTRL write that resets, starts or masks leaves irq low. -/
theorem irq_of_ctrlWrite {v : Word} {s : State}
    (h : v.getLsbD 1 = true ∨ (v.getLsbD 0 = true ∧ s.phase = .idle) ∨ v.getLsbD 2 = false) :
    (ctrlWrite v s).irq = false := by
  rcases ctrlWrite_cases v s with ⟨-, ht⟩ | ⟨-, -, -, ht⟩ | ⟨hplain, ht⟩ <;> rw [ht]
  · rfl
  · rfl
  · rcases h with hr | ⟨hs, hi⟩ | hen
    · rw [ctrlWrite_reset hr] at ht
      rw [← ht]
      rfl
    · rcases hplain with h0 | hb
      · exact Bool.noConfusion (h0.symm.trans hs)
      · exact Phase.noConfusion (hi.symm.trans hb)
    · exact (congrArg (s.done && ·) hen).trans (Bool.and_false _)

/-- Settles O47: the level's definition, then what raises it, what a job's end leaves, and what brings it low. -/
theorem interruptSource : Obligations.InterruptSource := by
  refine ⟨fun s => by simp, fun s t => irq_rise, fun s t => irq_of_end, fun s rest v h => ?_⟩
  rcases h with ⟨hp, hd⟩ | ⟨hp, h⟩
  · exact ⟨_, step_status hp, by simp [hd]⟩
  · exact ⟨_, step_ctrl hp, irq_of_ctrlWrite h⟩

end Sys2Proof.Proofs
end

section
/-! PROOFS. Invariant: every step keeps the machine's invariant (10_state R22 to R46; 60 R261 to R264). A run's record,
its errors, its place in the buffer and the unit it calls are followed apart, then put together. -/

namespace Sys2Proof.Proofs

open Sys2Proof Sys2Proof.Machine Sys2Proof.Safety Sys2Proof.Laws

/-! The record's bounds (10_state R33, R38, R45, R46). -/

/-- What the invariant says of the record. -/
structure RecordBounds (r : Record) : Prop where
  vpi : r.vpi.extractLsb' 4 4 = 0
  opclass : r.opclass.toNat ≤ 17 ∨ r.opclass.toNat = 31
  nameLen : r.nameLen.toNat ≤ 32
  tlvsDone : r.tlvsDone.toNat ≤ 255
  tlvSlots : r.tlvs.length ≤ 255

/-- VPI's two nibbles land in bits 11:8 and 3:0 (41 R141). -/
theorem hdrVpi_middle (b0 b1 : Byte) : (hdrVpi b0 b1).extractLsb' 4 4 = 0 := by
  ext i hi
  have hcases : i = 0 ∨ i = 1 ∨ i = 2 ∨ i = 3 := by omega
  rcases hcases with rfl | rfl | rfl | rfl <;> simp [hdrVpi]

theorem opclass_bound (op : Half) : opclass Config.aldb op ≤ 17 ∨ opclass Config.aldb op = 31 := by
  unfold opclass
  cases hk : opcodeIndex Config.aldb op with
  | none => exact .inr rfl
  | some k => exact .inl (Nat.le_of_lt_succ (List.findIdx?_eq_some_iff_getElem.mp hk).1)

theorem recordBounds_keptByWrites : KeptByWrites Config.aldb fun r _ => RecordBounds r := by
  intro b g r v hw h
  cases hw with
  | hdr n => exact { h with vpi := hdrVpi_middle _ _ }
  | opcode op =>
    have hmod : (BitVec.ofNat 5 (opclass Config.aldb op)).toNat = opclass Config.aldb op := by
      have := opclass_bound op
      rw [BitVec.toNat_ofNat]
      omega
    exact { h with opclass := by simpa only [hmod] using opclass_bound op }
  | ld i g =>
    unfold Record.setLd
    split <;> exact { h with }
  | nameSize n =>
    have hle : (nameLenOf Config.aldb n).toNat ≤ 32 := by
      rw [nameLenOf, BitVec.toNat_ofNat]
      exact (Nat.mod_le _ _).trans (Nat.min_le_right _ _)
    exact { h with nameLen := hle }
  | tlvsStart => exact { h with tlvsDone := Nat.zero_le _ }
  | tlvEntry k hk x =>
    have hdone : (BitVec.ofNat 9 (k + 1)).toNat ≤ 255 := by
      rw [BitVec.toNat_ofNat]
      exact (Nat.mod_le _ _).trans hk
    have hslots : (tlvPut r.tlvs k x).length ≤ 255 := by
      rw [tlvPut_length]
      exact max_le h.tlvSlots hk
    exact { h with tlvsDone := hdone, tlvSlots := hslots }
  | _ => exact { h with }

/-! The errors a run raises (60 R261, R262). -/

/-- Every error raised names its kind and its unit. -/
def RaisesNamed {α : Type} (m : Dec α) : Prop := ∀ s e t, m s = .error e t → e.kind ≠ .none ∧ e.unit ≠ .none

section Raises

variable {α β : Type}

theorem raisesNamed_bind {m : Dec α} {g : α → Dec β} (hm : RaisesNamed m) (hg : ∀ a, RaisesNamed (g a)) :
    RaisesNamed (m >>= g) := by
  intro s e t h
  cases hr : m s with
  | ok a u =>
    rw [dec_bind_ok hr] at h
    exact hg a u e t h
  | error e' u =>
    rw [dec_bind_error hr] at h
    cases h
    exact hm s e t hr

theorem raisesNamed_of_ok {m : Dec α} (h : ∀ s, ∃ a t, m s = .ok a t) : RaisesNamed m := by
  intro s e t hr
  obtain ⟨a, u, hok⟩ := h s
  rw [hok] at hr
  cases hr

theorem raisesNamed_pure (a : α) : RaisesNamed (pure a : Dec α) := raisesNamed_of_ok fun s => ⟨a, s, rfl⟩

theorem raisesNamed_put' (g : State → State) : RaisesNamed (put' g) := raisesNamed_of_ok fun s => ⟨(), g s, rfl⟩

theorem raisesNamed_memRead {u : ErrUnit} (o n : Nat) (hu : u ≠ .none) : RaisesNamed (memRead u o n) := by
  intro s e t h
  rw [memRead_eq] at h
  split at h <;> cases h
  exact ⟨nofun, hu⟩

theorem raisesNamed_memBytes {u : ErrUnit} (o n : Nat) (hu : u ≠ .none) : RaisesNamed (memBytes u o n) := by
  intro s e t h
  rw [memBytes_eq] at h
  split at h <;> cases h
  exact ⟨nofun, hu⟩

theorem raisesNamed_elanName (c : Config) (o : Nat) : RaisesNamed (elanName c o) := by
  have hname : RaisesNamed (readName o) := by
    intro s e t h
    rw [readName_eq] at h
    split_ifs at h
    cases h
    exact ⟨nofun, nofun⟩
  exact raisesNamed_bind hname fun _ => raisesNamed_bind (raisesNamed_put' _) fun _ => raisesNamed_put' _

theorem raisesNamed_tlvLoop (n k t : Nat) : RaisesNamed (tlvLoop n k t) := by
  induction n generalizing k t with
  | zero => exact raisesNamed_pure ()
  | succ n ih =>
    intro s e u h
    rw [tlvLoop_succ] at h
    split_ifs at h
    · cases h; exact ⟨nofun, nofun⟩
    · cases h; exact ⟨nofun, nofun⟩
    · cases h; exact ⟨nofun, nofun⟩
    · exact ih _ _ _ _ _ h

theorem raisesNamed_rowRule (c : Config) : RowRule c fun m => RaisesNamed m where
  pure := raisesNamed_pure
  bind := raisesNamed_bind
  raiseIn u k o hu hk s e t h := by
    cases h
    exact ⟨hk, hu⟩
  memRead _ _ _ hu := raisesNamed_memRead _ _ hu
  memBytes _ _ _ hu := raisesNamed_memBytes _ _ hu
  putField _ := raisesNamed_put' _
  setCur _ := raisesNamed_put' _
  skip _ := raisesNamed_put' _
  enter _ := raisesNamed_put' _
  finish := raisesNamed_put' _
  look hm s := hm s.dl s.r s.lim s
  elanName o := raisesNamed_elanName c o
  tlvRun _ _ _ := raisesNamed_bind (raisesNamed_put' _) fun _ => raisesNamed_bind (raisesNamed_put' _) fun _ =>
    raisesNamed_tlvLoop _ _ _

theorem raisesNamed_jobEnter (c : Config) : RaisesNamed (jobEnter c) := by
  intro s e t h
  rw [jobEnter_eq] at h
  split at h <;> cases h
  exact ⟨nofun, nofun⟩

theorem raisesNamed_tailTrailer (l : Nat) : RaisesNamed (tailTrailer l) :=
  raisesNamed_bind (raisesNamed_memRead _ _ nofun) fun _ => raisesNamed_bind (raisesNamed_put' _) fun _ =>
  raisesNamed_bind (raisesNamed_memRead _ _ nofun) fun _ => raisesNamed_bind (raisesNamed_put' _) fun _ =>
  raisesNamed_bind (raisesNamed_memRead _ _ nofun) fun _ => raisesNamed_put' _

theorem raisesNamed_runs {s : State} {m : Dec Unit} (hm : Runs s m) : RaisesNamed m := by
  have hr := raisesNamed_rowRule Config.aldb
  have hjob := raisesNamed_jobEnter Config.aldb
  cases hm with
  | jobCell => exact raisesNamed_bind hjob fun _ => hr.cellPath
  | jobPduTrunc => exact raisesNamed_bind hjob fun _ => hr.pduTrunc
  | jobPduTail =>
    exact fun s => raisesNamed_bind hjob (fun _ => raisesNamed_bind hr.tailFits fun _ =>
      raisesNamed_bind (raisesNamed_tailTrailer _) fun _ => hr.tailRest s.dl.l.toNat) s
  | jobPduCut => exact raisesNamed_bind hjob fun _ => hr.pduCut
  | pduHandOn | laneHandOn => exact hr.handOn _ _ _
  | laneSplit => exact raisesNamed_bind (raisesNamed_put' _) fun _ => hr.enter _
  | laneData => exact hr.laneData _ _ _
  | laneLe => exact hr.laneLe _ _
  | leControl => exact hr.leControl _ _
  | leShort => exact hr.leOpening _ _
  | noBody => exact hr.finish
  | cjBody => exact hr.cjBody _
  | regBody => exact hr.regBody _
  | arpBody => exact hr.arpBody _
  | verifyBody => exact hr.verifyBody _
  | flushBody => exact hr.flushBody _
  | tlvWalk => exact hr.tlvWalkEnd _ (Nat.le_of_lt_succ (BitVec.isLt _))

end Raises

/-- The error registers as they were. -/
def SameError (s t : State) : Prop := t.errCode = s.errCode ∧ t.errUnit = s.errUnit ∧ t.errOffset = s.errOffset

theorem sameError_respected : Respected SameError where
  refl _ := ⟨rfl, rfl, rfl⟩
  trans _ _ _ hst htu := ⟨htu.1.trans hst.1, htu.2.1.trans hst.2.1, htu.2.2.trans hst.2.2⟩
  record _ _ := ⟨rfl, rfl, rfl⟩
  setV _ _ := ⟨rfl, rfl, rfl⟩
  place _ _ _ _ := ⟨rfl, rfl, rfl⟩
  endJob _ := ⟨rfl, rfl, rfl⟩

/-- The engine's turn leaves the error registers, or records a named error (60 R263). -/
theorem errors_settle {s : State} {m : Dec Unit} (hm : Runs s m) :
    SameError s (settle (m s)) ∨ ((settle (m s)).errCode ≠ .none ∧ (settle (m s)).errUnit ≠ .none) := by
  have hs := sameError_respected.leaves_runs hm s
  cases hr : m s with
  | ok a t =>
    rw [hr] at hs
    exact .inl hs
  | error e t => exact .inr (raisesNamed_runs hm s e t hr)

/-! The place in the buffer (10_state R40, R41). -/

/-- A job past its opening: BUSY, its limit in the buffer and in the captured length, its cursor at most 53 past it. -/
structure Bounded (phase : Phase) (lim l cur : Nat) : Prop where
  busy : phase = .busy
  cap : lim ≤ 65568
  latch : lim ≤ l
  cur : cur ≤ lim + 53

/-- The state of a job past its opening. -/
def Mid (s : State) : Prop := Bounded s.phase s.lim s.dl.l.toNat s.cur

/-- What the invariant says of the limit, the cursor and an ended job's unit. -/
structure Placed (s : State) : Prop where
  cap : s.lim ≤ 65568
  latch : s.phase = .busy → s.unit ≠ .job → s.lim ≤ s.dl.l.toNat
  cur : s.cur ≤ s.lim + 53
  idle : s.phase = .idle → s.unit = .job

/-- A decode step inside a row: it stays BUSY under its limit. -/
structure Onward (s t : State) : Prop where
  phase : t.phase = s.phase
  lim : t.lim = s.lim
  dl : t.dl = s.dl
  cur : s.cur ≤ s.lim + 53 → t.cur ≤ t.lim + 53

theorem Onward.refl (s : State) : Onward s s := ⟨rfl, rfl, rfl, id⟩

theorem Onward.trans (s t u : State) (h : Onward s t) (k : Onward t u) : Onward s u :=
  ⟨k.phase.trans h.phase, k.lim.trans h.lim, k.dl.trans h.dl, k.cur ∘ h.cur⟩

theorem Mid.onward {s t : State} (hs : Mid s) (h : Onward s t) : Mid t := by
  refine ⟨h.phase.trans hs.busy, ?_, ?_, h.cur hs.cur⟩ <;> rw [h.lim]
  · exact hs.cap
  · rw [h.dl]
    exact hs.latch

section Place

variable {α β : Type} {s : State}

theorem placed_of_mid (h : Mid s) : Placed s :=
  ⟨h.cap, fun _ _ => h.latch, h.cur, fun hi => Phase.noConfusion (hi.symm.trans h.busy)⟩

theorem placed_takeError (e : JobError) (hcap : s.lim ≤ 65568) (hcur : s.cur ≤ s.lim + 53) : Placed (s.takeError e) :=
  ⟨hcap, nofun, hcur, fun _ => rfl⟩

theorem placed_finish (h : Mid s) : Placed (settle (finish s)) := ⟨h.cap, nofun, h.cur, fun _ => rfl⟩

theorem placed_enter (u : EngineUnit) (h : Mid s) : Placed (settle (enter u s)) :=
  ⟨h.cap, fun _ _ => h.latch, h.cur, fun hi => Phase.noConfusion (hi.symm.trans h.busy)⟩

/-- A step inside a row, then the rest of the row: an error on the way ends the job where it stands. -/
theorem placed_bind {m : Dec α} {g : α → Dec Unit} (hs : Mid s) (hm : Onward s (leftState (m s)))
    (hg : ∀ a t, m s = .ok a t → Mid t → t.lim = s.lim → Placed (settle (g a t))) : Placed (settle ((m >>= g) s)) := by
  cases hr : m s with
  | ok a t =>
    rw [hr] at hm
    rw [dec_bind_ok hr]
    exact hg a t hr (hs.onward hm) hm.lim
  | error e t =>
    rw [hr] at hm
    rw [dec_bind_error hr]
    exact placed_takeError e (hs.onward hm).cap (hs.onward hm).cur

theorem placed_leaves {m : Dec Unit} (hs : Mid s) (hm : Leaves Onward m) : Placed (settle (m s)) := by
  have hon := hm s
  cases hr : m s <;> rw [hr] at hon
  · exact placed_of_mid (hs.onward hon)
  · exact placed_takeError _ (hs.onward hon).cap (hs.onward hon).cur

/-! Steps that leave the place alone, and reads that move the cursor under the limit. -/

theorem onward_putField (g : Record → Record) (b : VBit) : Leaves Onward (putField g b) := fun _ =>
  ⟨rfl, rfl, rfl, id⟩

theorem onward_putRecord (g : State → Record) : Leaves Onward (put' fun s => { s with r := g s }) := fun _ =>
  ⟨rfl, rfl, rfl, id⟩

theorem onward_readField (u : ErrUnit) (o n : Nat) (b : VBit) (g : Nat → Record → Record) :
    Leaves Onward (readField u o n b g) := by
  intro s
  rw [readField_eq]
  split
  · next h => exact ⟨rfl, rfl, rfl, fun _ => h.trans (Nat.le_add_right _ _)⟩
  · exact .refl s

theorem onward_bind {m : Dec α} {g : α → Dec β} (hm : Leaves Onward m) (hg : ∀ a, Leaves Onward (g a)) :
    Leaves Onward (m >>= g) := leaves_bind Onward.trans hm hg

theorem onward_memRead (u : ErrUnit) (o n : Nat) : Leaves Onward (memRead u o n) := leaves_memRead Onward.refl u o n

/-- No limit is too small for the first 53 offsets (10_state R41). -/
theorem onward_setCur {o : Nat} (ho : o ≤ 53) : Leaves Onward (setCur o) := fun _ =>
  ⟨rfl, rfl, rfl, fun _ => Nat.le_add_left_of_le ho⟩

theorem onward_decodeCellHeader (c : Config) : Leaves Onward (decodeCellHeader c) :=
  onward_bind (onward_memRead _ _ _) fun _ => onward_bind (onward_putField _ _) fun _ => onward_setCur (by decide)

theorem onward_lanDest (c : Config) {d : Nat} (i : Nat) (hd : d + 8 ≤ 53) : Leaves Onward (lanDest c d i) := by
  have hwrite : ∀ g, Leaves Onward (ldWrite d i g) := fun _ =>
    onward_bind (onward_putField _ _) fun _ => onward_setCur hd
  exact onward_bind (onward_memRead _ _ _) fun _ =>
    leaves_ite (onward_bind (onward_memRead _ _ _) fun _ => hwrite _)
      (leaves_ite (onward_bind (onward_memRead _ _ _) fun _ => hwrite _) (hwrite _))

theorem onward_readAtm0 (o : Nat) : Leaves Onward (readAtm0 o) := by
  intro s
  rw [readAtm0_eq]
  split
  · next h => exact ⟨rfl, rfl, rfl, fun _ => h.trans (Nat.le_add_right _ _)⟩
  · exact .refl s

theorem onward_readAtm1 (o : Nat) : Leaves Onward (readAtm1 o) := by
  intro s
  rw [readAtm1_eq]
  split
  · next h => exact ⟨rfl, rfl, rfl, fun _ => h.trans (Nat.le_add_right _ _)⟩
  · exact .refl s

theorem onward_bodyHead (c : Config) : Leaves Onward (bodyHead c 0) :=
  onward_bind (onward_lanDest c 0 (by decide)) fun _ => onward_bind (onward_lanDest c 1 (by decide)) fun _ =>
    onward_readAtm0 _

theorem onward_cjScalars (c : Config) (o : Nat) : Leaves Onward (cjScalars c o) :=
  onward_bind (onward_readField _ _ _ _ _) fun _ => onward_bind (onward_readField _ _ _ _ _) fun _ =>
  onward_bind (onward_readField _ _ _ _ _) fun _ => onward_bind (onward_readField _ _ _ _ _) fun _ =>
  leaves_pure Onward.refl _

theorem onward_cjMiddle (c : Config) (f : Nat) : Leaves Onward (cjMiddle c f) := by
  unfold cjMiddle
  split
  · exact onward_bind (onward_readAtm1 _) fun _ => onward_cjScalars _ _
  · exact onward_bind (onward_cjScalars _ _) fun _ => onward_bind (onward_readAtm1 _) fun _ =>
      leaves_pure Onward.refl _

/-- The name slot ends 32 bytes after its start, which the field before it has put under the limit. -/
theorem onward_elanName {o : Nat} (ho : o ≤ s.lim) : Onward s (leftState (elanName Config.aldb o s)) := by
  have hend : o + 32 ≤ s.lim + 53 := by omega
  rw [elanName, dec_bind, readName_eq]
  split_ifs
  · exact ⟨rfl, rfl, rfl, fun _ => hend⟩
  · exact ⟨rfl, rfl, rfl, fun _ => hend⟩
  · exact .refl s

theorem onward_tlvLoop (n k t : Nat) : Leaves Onward (tlvLoop n k t) := by
  induction n generalizing k t with
  | zero => exact Onward.refl
  | succ n ih =>
    intro s
    rw [tlvLoop_succ]
    split_ifs with _ _ hfit
    · exact .refl s
    · exact .refl s
    · exact .refl s
    · refine .trans _ (entryReported s k t) _ ⟨rfl, rfl, rfl, fun _ => ?_⟩ (ih _ _ _)
      exact (Nat.le_of_not_lt hfit).trans (Nat.le_add_right _ _)

theorem onward_leOpening (c : Config) (f : Nat) (op : Half) : Leaves Onward (leOpening c f op) :=
  onward_bind (onward_readField _ _ _ _ _) fun _ => onward_bind (onward_readField _ _ _ _ _) fun _ =>
  onward_bind (onward_readField _ _ _ _ _) fun _ => onward_bind (onward_readField _ _ _ _ _) fun _ =>
  leaves_pure Onward.refl _

theorem onward_flagBits (c : Config) (op : Half) : Leaves Onward (put' (flagBits c op)) := by
  intro s
  obtain ⟨r, v, h⟩ := flagBits_eq c op s
  rw [put'_apply, h]
  exact ⟨rfl, rfl, rfl, id⟩

theorem onward_leFields (c : Config) (op : Half) : Leaves Onward (leFields c 0 op) := by
  have hstatus : Leaves Onward (leStatus 0 op) := by
    intro s
    rw [leStatus_eq]
    split
    · next h => exact ⟨rfl, rfl, rfl, fun _ => h.trans (Nat.le_add_right _ _)⟩
    · exact .refl s
  exact onward_bind hstatus fun _ => onward_bind (onward_readField _ _ _ _ _) fun _ =>
    onward_bind (onward_readField _ _ _ _ _) fun _ => onward_bind (onward_readField _ _ _ _ _) fun _ =>
    onward_bind (onward_flagBits c op) fun _ => onward_setCur (by decide)

theorem onward_tailTrailer (l : Nat) : Leaves Onward (tailTrailer l) :=
  onward_bind (onward_memRead _ _ _) fun _ => onward_bind (onward_putRecord _) fun _ =>
  onward_bind (onward_memRead _ _ _) fun _ => onward_bind (onward_putRecord _) fun _ =>
  onward_bind (onward_memRead _ _ _) fun _ => onward_putField _ _

theorem onward_inferCells (c : Config) : Leaves Onward (put' (inferCells c)) := by
  intro s
  obtain ⟨r, v, h⟩ := inferCells_eq c s
  rw [put'_apply, h]
  exact ⟨rfl, rfl, rfl, id⟩

theorem onward_tailFits : Leaves Onward tailFits := by
  intro s
  unfold tailFits
  split <;> exact .refl s

theorem onward_tailLength (l : Nat) : Leaves Onward (tailLength l) := by
  intro s
  unfold tailLength
  split_ifs
  · exact .refl s
  · exact onward_putField _ _ s
  · exact .refl s

/-! The rows. -/

/-- A job's opening refuses the job where it stands, or puts the limit and the cursor in their bounds (40 R120). -/
theorem placed_jobEnter {g : Unit → Dec Unit} (hb : s.phase = .busy) (hcap : s.lim ≤ 65568)
    (hcur : s.cur ≤ s.lim + 53) (hg : ∀ t, Mid t → t.dl = s.dl → Placed (settle (g () t))) :
    Placed (settle ((jobEnter Config.aldb >>= g) s)) := by
  by_cases hl : Config.aldb.bufCap < s.dl.l.toNat
  · rw [dec_bind_error ((jobEnter_eq _ _).trans (if_pos hl))]
    exact placed_takeError _ hcap hcur
  · rw [dec_bind_ok ((jobEnter_eq _ _).trans (if_neg hl))]
    exact hg _ ⟨hb, Nat.le_of_not_lt hl, le_rfl, Nat.zero_le _⟩ rfl

theorem onward_cellDispatch (c : Config) : Leaves Onward (cellDispatch c) := fun _ =>
  ⟨rfl, rfl, rfl, id⟩

theorem placed_cellPath (c : Config) (h : Mid s) : Placed (settle (cellPath c s)) :=
  placed_bind h (onward_decodeCellHeader c s) fun _ _ _ h _ =>
    placed_bind h (onward_cellDispatch c _) fun _ _ _ h _ => placed_finish h

theorem placed_pduTrunc (h : Mid s) : Placed (settle (pduTrunc s)) := by
  obtain ⟨r, v, hmeta⟩ := metaTrailer_eq s
  have hmid : Mid (metaTrailer s) := by
    rw [hmeta]
    exact h
  exact placed_enter (.pdu 0 s.dl.l) hmid

theorem placed_pduTail (c : Config) (l : Nat) (h : Mid s) : Placed (settle (pduTail c l s)) :=
  placed_bind h (onward_tailFits s) fun _ _ _ h _ =>
  placed_bind h (onward_tailTrailer l _) fun _ _ _ h _ =>
  placed_bind h (onward_inferCells c _) fun _ _ _ h _ =>
  placed_bind h (onward_tailLength l _) fun _ _ _ h _ => placed_enter _ h

theorem placed_handOn (t : Target) (po pl : Nat) (h : Mid s) : Placed (settle (handOn t po pl s)) :=
  placed_bind h (onward_putField _ _ s) fun _ _ _ h _ => placed_finish h

theorem placed_laneSplit {pl : Word} (h : Mid s) (hpl : pl.toNat ≤ s.lim) : Placed (settle (laneSplit 0 pl s)) := by
  have hlim : (0 : Word).toNat + pl.toNat ≤ s.lim := (Nat.zero_add _).le.trans hpl
  have hmid : Mid { s with lim := (0 : Word).toNat + pl.toNat, cur := (0 : Word).toNat } :=
    ⟨h.busy, hlim.trans h.cap, hlim.trans h.latch, Nat.zero_le _⟩
  exact placed_enter (.lane 0 pl) hmid

theorem placed_laneData (t : Target) (po pl : Nat) (h : Mid s) : Placed (settle (laneData t po pl s)) :=
  placed_bind h (onward_readField _ _ _ _ _ s) fun _ _ _ h _ =>
  placed_bind h (onward_putField _ _ _) fun _ _ _ h _ => placed_finish h

theorem placed_laneLe (po pl : Word) (h : Mid s) : Placed (settle (laneLe po pl s)) :=
  placed_bind h (onward_putField _ _ s) fun _ _ _ h _ => placed_enter _ h

theorem leEnter_cases (k : BodyKind) (f : Word) : leEnter k f = finish ∨ leEnter k f = enter (.body f) := by
  cases k with
  | none | topology => exact .inl rfl
  | configureJoin | registration | arp | verify | flush => exact .inr rfl

theorem placed_leBody (c : Config) (f : Word) (op : Half) (h : Mid s) : Placed (settle (leBody c f op s)) := by
  refine placed_bind h (onward_putField _ _ s) fun _ _ _ h _ => ?_
  rcases leEnter_cases (bodyKind c op) f with he | he <;> rw [he]
  · exact placed_finish h
  · exact placed_enter _ h

theorem placed_leControl (c : Config) (op : Half) (h : Mid s) : Placed (settle (leControl c 0 op s)) := by
  refine placed_bind h (onward_leOpening c _ op s) fun _ _ _ h _ => ?_
  split
  · exact placed_finish h
  · exact placed_bind h (onward_leFields c op _) fun _ _ _ h _ => placed_leBody c _ op h

/-! The bodies: the cursor after each read and each skip is known. -/

theorem placed_skip {n : Nat} {g : Unit → Dec Unit} (h : Mid s) (hn : s.cur + n ≤ s.lim + 53)
    (hg : ∀ t, Mid t → t.lim = s.lim → t.cur = s.cur + n → Placed (settle (g () t))) :
    Placed (settle ((skip n >>= g) s)) := by
  rw [dec_bind_ok (skip_apply n s)]
  exact hg _ ⟨h.busy, h.cap, h.latch, hn⟩ rfl rfl

theorem placed_bodyHead {g : Unit → Dec Unit} (c : Config) (h : Mid s)
    (hg : ∀ t, Mid t → t.lim = s.lim → t.cur = 52 → Placed (settle (g () t))) :
    Placed (settle ((bodyHead c 0 >>= g) s)) :=
  placed_bind h (onward_bodyHead c s) fun a t hok ht hlim =>
    hg t ht hlim (onReturn_bodyHead (Q := fun _ t => t.cur = 52) (fun _ _ => rfl) a t hok)

theorem placed_readNumTlvs {o : Nat} {g : Nat → Dec Unit} (h : Mid s)
    (hg : ∀ n t, Mid t → t.lim = s.lim → o + 1 ≤ s.lim → t.cur = o + 1 → Placed (settle (g n t))) :
    Placed (settle ((readNumTlvs o >>= g) s)) := by
  refine placed_bind h (onward_readField _ _ _ _ _ s) fun n t hok ht hlim => ?_
  obtain ⟨hle, hcur⟩ := (onReturn_readNumTlvs (Q := fun _ t => o + 1 ≤ s.lim ∧ t.cur = o + 1) o).mpr
    (fun hle => ⟨hle, rfl⟩) n t hok
  exact hg n t ht hlim hle hcur

theorem placed_readAtm1 {o : Nat} {g : Unit → Dec Unit} (h : Mid s)
    (hg : ∀ t, Mid t → t.lim = s.lim → o + 20 ≤ s.lim → t.cur = o + 20 → Placed (settle (g () t))) :
    Placed (settle ((readAtm1 o >>= g) s)) := by
  refine placed_bind h (onward_readAtm1 o s) fun a t hok ht hlim => ?_
  obtain ⟨hle, hcur⟩ := (onReturn_readAtm1 (Q := fun _ t => o + 20 ≤ s.lim ∧ t.cur = o + 20) o).mpr
    (fun hle => ⟨hle, rfl⟩) a t hok
  exact hg t ht hlim hle hcur

theorem placed_setCur {o : Nat} {g : Unit → Dec Unit} (h : Mid s) (ho : o ≤ s.lim + 53)
    (hg : ∀ t, Mid t → t.lim = s.lim → Placed (settle (g () t))) : Placed (settle ((setCur o >>= g) s)) := by
  rw [dec_bind_ok (setCur_apply o s)]
  exact hg _ ⟨h.busy, h.cap, h.latch, ho⟩ rfl

theorem placed_cjBody (h : Mid s) : Placed (settle (cjBody Config.aldb 0 s)) := by
  refine placed_bodyHead _ h fun t ht _ _ => ?_
  refine placed_bind ht (onward_cjMiddle _ _ t) fun n u hok hu hlim => ?_
  have hname : 0 + 76 ≤ u.lim :=
    onReturn_cjMiddle (Q := fun _ u => 0 + 76 ≤ u.lim) (fun hle _ _ _ => hle) n u hok
  refine placed_bind hu (onward_elanName hname) fun _ v _ hv hlim' => ?_
  exact placed_setCur hv (by omega) fun _ hw _ => placed_enter _ hw

theorem placed_regBody (c : Config) (h : Mid s) (hlim : 16 ≤ s.lim) : Placed (settle (regBody c 0 s)) :=
  placed_bodyHead c h fun _ h _ _ =>
  placed_skip h (by omega) fun _ h _ _ =>
  placed_readNumTlvs h fun _ _ h _ _ _ =>
  placed_skip h (by omega) fun _ h _ _ => placed_enter _ h

theorem placed_arpBody (c : Config) (h : Mid s) (hlim : 16 ≤ s.lim) : Placed (settle (arpBody c 0 s)) :=
  placed_bodyHead c h fun _ h _ _ =>
  placed_skip h (by omega) fun _ h _ _ =>
  placed_readNumTlvs h fun _ _ h _ _ _ =>
  placed_skip h (by omega) fun _ h _ _ =>
  placed_readAtm1 h fun _ h _ _ _ =>
  placed_skip h (by omega) fun _ h _ _ => placed_enter _ h

theorem placed_verifyBody (h : Mid s) (hlim : 16 ≤ s.lim) (hcur : s.cur = 16) : Placed (settle (verifyBody 0 s)) :=
  placed_skip h (by omega) fun _ h _ _ =>
  placed_readNumTlvs h fun _ _ h _ _ _ =>
  placed_skip h (by omega) fun _ h _ _ =>
  placed_readAtm1 h fun _ h _ _ _ =>
  placed_skip h (by omega) fun _ h _ _ => placed_enter _ h

theorem placed_flushBody (c : Config) (h : Mid s) (hlim : 16 ≤ s.lim) : Placed (settle (flushBody c 0 s)) :=
  placed_bodyHead c h fun _ h _ _ =>
  placed_skip h (by omega) fun _ h _ _ =>
  placed_readAtm1 h fun _ h _ _ _ =>
  placed_skip h (by omega) fun _ h _ _ => placed_finish h

theorem placed_tlvWalkEnd (n : Nat) (h : Mid s) (hlim : 55 ≤ s.lim) : Placed (settle (tlvWalkEnd 108 n s)) := by
  have hstart : Onward s (leftState (tlvRun 108 n s)) :=
    .trans _ { s with
        r := { s.r with tlvsDone := 0 }, valid := s.valid ||| VBit.tlvs.mask, cur := 108 } _
      ⟨rfl, rfl, rfl, fun _ => by show 108 ≤ s.lim + 53; omega⟩ (onward_tlvLoop n 0 108 _)
  exact placed_bind h hstart fun _ _ _ h _ => placed_finish h

end Place

/-! Everything the engine runs, by its unit. -/

section Unit

variable {s : State} {m : Dec Unit}

theorem unitOk_pdu {po pl : Word} (h : unitOk s) (hu : s.unit = .pdu po pl) :
    pduClass s.dl ∧ po = 0 ∧ pl.toNat ≤ s.lim := by simpa [unitOk, hu] using h

theorem unitOk_lane {po pl : Word} (h : unitOk s) (hu : s.unit = .lane po pl) :
    s.dl.aal = 4 ∧ s.dl.trafType = 3 ∧ po = 0 ∧ s.lim = pl.toNat := by simpa [unitOk, hu] using h

theorem unitOk_lec {f : Word} (h : unitOk s) (hu : s.unit = .lec f) : f = 0 := by simpa [unitOk, hu] using h

theorem unitOk_body {f : Word} (h : unitOk s) (hu : s.unit = .body f) : f = 0 ∧ 16 ≤ s.lim ∧ s.cur = 16 := by
  simp only [unitOk, hu] at h
  exact ⟨h.1, h.2.1, h.2.2.1⟩

theorem unitOk_tlv {o : Word} {n : BitVec 8} (h : unitOk s) (hu : s.unit = .tlv o n) : o = 108 ∧ 55 ≤ s.lim := by
  simpa [unitOk, hu] using h

/-- Under the invariant's bounds, the engine's turn leaves its limit, cursor and unit in theirs. -/
theorem placed_runs (hb : s.phase = .busy) (hinv : Inv s) (hm : Runs s m) : Placed (settle (m s)) := by
  have hok := hinv.unit hb
  have hjob : ∀ {g : Unit → Dec Unit}, (∀ t, Mid t → t.dl = s.dl → Placed (settle (g () t))) →
      Placed (settle ((jobEnter Config.aldb >>= g) s)) := placed_jobEnter hb hinv.lim hinv.cur
  have hmid : s.unit ≠ .job → Mid s := fun hu => ⟨hb, hinv.lim, hinv.limLatch hb hu, hinv.cur⟩
  cases hm with
  | jobCell => exact hjob fun t h _ => placed_cellPath _ h
  | jobPduTrunc => exact hjob fun t h _ => placed_pduTrunc h
  | jobPduTail => exact hjob fun t h _ => placed_pduTail _ _ h
  | jobPduCut => exact hjob fun t h _ => placed_enter _ h
  | pduHandOn t hu | laneHandOn t hu => exact placed_handOn _ _ _ (hmid (by rw [hu]; nofun))
  | laneSplit hu =>
    obtain ⟨-, rfl, hpl⟩ := unitOk_pdu hok hu
    exact placed_laneSplit (hmid (by rw [hu]; nofun)) hpl
  | laneData t hu => exact placed_laneData _ _ _ (hmid (by rw [hu]; nofun))
  | laneLe hu => exact placed_laneLe _ _ (hmid (by rw [hu]; nofun))
  | leControl op hu =>
    obtain rfl := unitOk_lec hok hu
    exact placed_leControl _ op (hmid (by rw [hu]; nofun))
  | leShort hu => exact placed_leaves (hmid (by rw [hu]; nofun)) (onward_leOpening _ _ _)
  | noBody hu => exact placed_finish (hmid (by rw [hu]; nofun))
  | cjBody hu =>
    obtain ⟨rfl, -, -⟩ := unitOk_body hok hu
    exact placed_cjBody (hmid (by rw [hu]; nofun))
  | regBody hu =>
    obtain ⟨rfl, hlim, -⟩ := unitOk_body hok hu
    exact placed_regBody _ (hmid (by rw [hu]; nofun)) hlim
  | arpBody hu =>
    obtain ⟨rfl, hlim, -⟩ := unitOk_body hok hu
    exact placed_arpBody _ (hmid (by rw [hu]; nofun)) hlim
  | verifyBody hu =>
    obtain ⟨rfl, hlim, hcur⟩ := unitOk_body hok hu
    exact placed_verifyBody (hmid (by rw [hu]; nofun)) hlim hcur
  | flushBody hu =>
    obtain ⟨rfl, hlim, -⟩ := unitOk_body hok hu
    exact placed_flushBody _ (hmid (by rw [hu]; nofun)) hlim
  | tlvWalk hu =>
    obtain ⟨rfl, hlim⟩ := unitOk_tlv hok hu
    exact placed_tlvWalkEnd _ (hmid (by rw [hu]; nofun)) hlim

/-- The unit that the engine's turn calls has its operands in place. -/
theorem handsOn_runs (hr : Running s) (hm : Runs s m) : ∃ n, HandsOn n (settle (m s)) := by
  obtain ⟨hb, hl, hok⟩ := hr
  cases hm with
  | jobCell => exact ⟨6, handsOn_settle (handsOn_jobCell _)⟩
  | jobPduTrunc _ hc => exact ⟨6, handsOn_settle (handsOn_jobPduTrunc hb hc)⟩
  | jobPduTail _ hc => exact ⟨6, handsOn_settle (handsOn_jobPduTail hb hc)⟩
  | jobPduCut _ hc => exact ⟨6, handsOn_settle (handsOn_jobPduCut hb hc)⟩
  | pduHandOn | laneHandOn => exact ⟨6, handsOn_settle (handsOn_handOn _ _ _)⟩
  | laneSplit hu haal htt =>
    obtain ⟨-, rfl, hpl⟩ := unitOk_pdu hok hu
    exact ⟨5, handsOn_settle (handsOn_laneSplit hb haal htt (hpl.trans hl))⟩
  | laneData => exact ⟨6, handsOn_settle (handsOn_laneData _ _ _)⟩
  | laneLe hu =>
    obtain ⟨-, -, rfl, -⟩ := unitOk_lane hok hu
    exact ⟨4, handsOn_settle (handsOn_laneLe _ hb hl)⟩
  | leControl op hu =>
    obtain rfl := unitOk_lec hok hu
    exact ⟨3, handsOn_settle (handsOn_leControl _ op hb hl)⟩
  | leShort hu hlim =>
    refine ⟨3, handsOn_settle ?_⟩
    simp only [leShort, leOpening, onReturn_bind, onReturn_readField, onReturn_pure]
    exact fun _ _ _ hopcode => absurd hopcode (Nat.not_le.mpr hlim)
  | noBody => exact ⟨6, handsOn_settle handsOn_finish⟩
  | cjBody hu =>
    obtain ⟨rfl, -, -⟩ := unitOk_body hok hu
    exact ⟨2, handsOn_settle (handsOn_cjBody _ hb hl)⟩
  | regBody hu =>
    obtain ⟨rfl, -, -⟩ := unitOk_body hok hu
    exact ⟨2, handsOn_settle (handsOn_regBody _ hb hl)⟩
  | arpBody hu =>
    obtain ⟨rfl, -, -⟩ := unitOk_body hok hu
    exact ⟨2, handsOn_settle (handsOn_arpBody _ hb hl)⟩
  | verifyBody hu =>
    obtain ⟨rfl, -, -⟩ := unitOk_body hok hu
    exact ⟨2, handsOn_settle (handsOn_verifyBody hb hl)⟩
  | flushBody => exact ⟨6, handsOn_settle (handsOn_flushBody _ _)⟩
  | tlvWalk => exact ⟨6, handsOn_settle (handsOn_tlvWalkEnd _ _)⟩

end Unit

/-! The invariant. -/

theorem recordBounds_of_inv {s : State} (h : Inv s) : RecordBounds s.r :=
  ⟨h.vpi, h.opclass, h.nameLen, h.tlvsDone, h.tlvSlots⟩

/-- The engine's turn keeps the invariant. -/
theorem inv_engineStep {s t : State} (hb : s.phase = .busy) (h : Inv s)
    (hst : engineStep Config.aldb exec s = .next t) : Inv t := by
  have hframe := engineFrame_engineStep hst
  have hstatus := statusMoves_engineStep hst
  obtain ⟨m, hm, rfl⟩ := engineStep_next hst
  have hrec := carries_settle (recordBounds_keptByWrites.runs hm) s (recordBounds_of_inv h)
  have hplace := placed_runs hb h hm
  obtain ⟨n, hon⟩ := handsOn_runs ⟨hb, h.lim, h.unit hb⟩ hm
  have herr := errors_settle hm
  generalize settle (m s) = t at *
  refine ⟨hframe.buf ▸ h.buf, fun hbusy => ?busyClean, ?errPair, fun hnone => ?errOffset, hplace.cap, hplace.latch,
    hplace.cur, hframe.desc ▸ h.flags, hrec.vpi, hrec.opclass, hrec.nameLen, hrec.tlvsDone, hrec.tlvSlots, hplace.idle,
    fun hbusy => ?unit⟩
  case busyClean =>
    obtain ⟨-, hd, hc, -⟩ := hstatus.running hbusy
    rw [hd, hc]
    exact h.busyClean hb
  case errPair =>
    rcases herr with ⟨hc, hu, -⟩ | ⟨hc, hu⟩
    · rw [hc, hu]
      exact h.errPair
    · exact iff_of_false hc hu
  case errOffset =>
    rcases herr with ⟨hc, -, ho⟩ | ⟨hc, -⟩
    · rw [ho]
      exact h.errOffset (hc ▸ hnone)
    · exact absurd hnone hc
  case unit =>
    rcases hon with ⟨hi, -⟩ | ⟨hr, -⟩
    · exact Phase.noConfusion (hi.symm.trans hbusy)
    · exact hr.unit

theorem inv_softReset {s : State} (h : Inv s) : Inv s.softReset := { inv_reset with buf := h.buf }

theorem inv_start {s : State} (h : Inv s) : Inv s.start :=
  { inv_reset with
    buf := h.buf
    busyClean := fun _ => ⟨rfl, rfl⟩
    lim := h.lim
    limLatch := fun _ hu => absurd rfl hu
    cur := Nat.zero_le _
    flags := h.flags
    idle := nofun
    unit := fun _ => trivial }

/-- What a host transaction changes keeps the invariant: what it may write while BUSY the invariant does not bound. -/
theorem inv_hostChange {s t : State} {op : PortOp} (h : Inv s) (hc : HostChange s op t) : Inv t := by
  cases hc with
  | ctrl v =>
    rcases ctrlWrite_cases v s with ⟨-, ht⟩ | ⟨-, -, -, ht⟩ | ⟨-, ht⟩ <;> rw [ht]
    · exact inv_softReset h
    · exact inv_start (s := { s with irqEn := v.getLsbD 2 }) { h with }
    · exact { h with }
  | clearDone => exact { h with busyClean := fun hb => ⟨rfl, (h.busyClean hb).2⟩ }
  | desc d hi hd =>
    have hflags : d.flags &&& 0xFFFFFFFE#32 = 0 := by
      rcases hd with hd | ⟨v, hd⟩ <;> rw [hd]
      · exact h.flags
      · rw [BitVec.and_assoc]
        exact BitVec.and_zero
    exact { h with flags := hflags }
  | byte o b hi ho => exact { h with buf := write_keeps_wf h.buf ho }
  | values => exact { h with }

/-- Settles O55: a transaction passed over changes the port alone, and the other changes are the engine's turn and the
host's. -/
theorem stepKeepsInv : Obligations.StepKeepsInv := by
  intro s t h hst
  cases step_next hst with
  | pass p => exact { h with }
  | turn p hb hturn => exact inv_engineStep (s := { s with port := p }) hb { h with } hturn
  | host op rest hp hc => exact inv_hostChange (s := { s with port := rest }) { h with } hc

end Sys2Proof.Proofs
end

section
/-! PROOFS. Fields: fields of a frame read one after another, and where such a read ends when the frame is cut; with it
the LE Control header (43_le_control R170, R174) and the LE client id (40 R131). -/

namespace Sys2Proof.Proofs

open Sys2Proof Sys2Proof.Machine Sys2Proof.Safety Sys2Proof.Laws

theorem dec_bind_assoc {α β γ : Type} (m : Dec α) (g : α → Dec β) (k : β → Dec γ) :
    m >>= g >>= k = m >>= fun a => g a >>= k := by
  funext s
  simp only [dec_bind]
  cases m s <;> rfl

theorem dec_bind_pure (m : Dec Unit) : (m >>= fun _ => pure ()) = m := by
  funext s
  rw [dec_bind]
  cases m s <;> rfl

/-- A field of a frame: offset from its start, width, valid bits, and the write (Safety.lean, `Fields`). -/
abbrev Field := Nat × Nat × BitVec 32 × (Record → Record)

/-- One field of a frame at `f`: written with its valid bits and the cursor moved to its end, or the unit's
TruncatedBuffer at its offset (43 R170, 20_memory R66). -/
def readOne (u : ErrUnit) (f : Nat) (x : Field) : Dec Unit := fun s =>
  if f + x.1 + x.2.1 ≤ s.lim then .ok () { wrote s x.2.2.1 x.2.2.2 with cur := f + x.1 + x.2.1 }
  else .error ⟨.truncatedBuffer, u, f + x.1⟩ s

/-- The fields of a frame at `f` read in their order. -/
def readInOrder (u : ErrUnit) (f : Nat) : Fields → Dec Unit
  | [] => pure ()
  | x :: xs => do
    readOne u f x
    readInOrder u f xs

/-- Each field ends before the next begins, or where it does. -/
def InOrder (xs : Fields) : Prop := xs.Pairwise fun x y => x.1 + x.2.1 ≤ y.1

section Order

variable {u : ErrUnit} {f : Nat} {x : Field} {s : State}

theorem readOne_of_le (h : f + x.1 + x.2.1 ≤ s.lim) :
    readOne u f x s = .ok () { wrote s x.2.2.1 x.2.2.2 with cur := f + x.1 + x.2.1 } := if_pos h

theorem readOne_of_lt (h : s.lim < f + x.1 + x.2.1) : readOne u f x s = .error ⟨.truncatedBuffer, u, f + x.1⟩ s :=
  if_neg (Nat.not_le.mpr h)

theorem readInOrder_append (xs ys : Fields) :
    readInOrder u f (xs ++ ys) = readInOrder u f xs >>= fun _ => readInOrder u f ys := by
  induction xs with
  | nil => rfl
  | cons x xs ih => rw [List.cons_append, readInOrder, ih, readInOrder, dec_bind_assoc]

/-- The first field past the limit raises, with every field before it kept (60 R263). -/
theorem readInOrder_cut {pre post : Fields} (hpre : ∀ y ∈ pre, f + y.1 + y.2.1 ≤ s.lim)
    (hx : s.lim < f + x.1 + x.2.1) :
    readInOrder u f (pre ++ x :: post) s = .error ⟨.truncatedBuffer, u, f + x.1⟩ (consume s f pre) := by
  induction pre generalizing s with
  | nil => exact dec_bind_error (readOne_of_lt hx)
  | cons y ys ih =>
    obtain ⟨hy, hys⟩ := List.forall_mem_cons.mp hpre
    exact (dec_bind_ok (readOne_of_le hy)).trans (ih hys hx)

/-- In an order of fields, what precedes a field that begins inside the limit fits. -/
theorem fits_of_inOrder {xs pre post : Fields} {l : Nat} (hord : InOrder xs) (hxs : xs = pre ++ x :: post)
    (hx : pre = [] ∨ f + x.1 ≤ l) : ∀ y ∈ pre, f + y.1 + y.2.1 ≤ l := by
  intro y hy
  rw [InOrder, hxs, List.pairwise_append] at hord
  obtain ⟨-, -, hlast⟩ := hord
  have hle := hlast y hy x List.mem_cons_self
  rcases hx with rfl | hx
  · cases hy
  · omega

/-- A row that begins with fields in order ends at the first that is cut. -/
theorem settle_of_cut {xs pre post : Fields} {g : Unit → Dec Unit} {m : Dec Unit}
    (hm : m s = (readInOrder u f xs >>= g) s) (hord : InOrder xs) (hxs : xs = pre ++ x :: post)
    (hpre : pre = [] ∨ f + x.1 ≤ s.lim) (hx : s.lim < f + x.1 + x.2.1) :
    settle (m s) = raised (consume s f pre) .truncatedBuffer u (f + x.1) := by
  have hfits := fits_of_inOrder hord hxs hpre
  subst hxs
  rw [hm, dec_bind_error (readInOrder_cut hfits hx)]
  rfl

/-- A step that is one field's read, then what follows it. -/
theorem bind_eq_readInOrder {α : Type} {m : Dec α} {k : α → Dec Unit} {g : Unit → Dec Unit} {xs : Fields}
    (hle : f + x.1 + x.2.1 ≤ s.lim → ∃ a, m s = .ok a { wrote s x.2.2.1 x.2.2.2 with cur := f + x.1 + x.2.1 })
    (hlt : s.lim < f + x.1 + x.2.1 → m s = .error ⟨.truncatedBuffer, u, f + x.1⟩ s)
    (hk : ∀ a t, t.buf = s.buf → k a t = (readInOrder u f xs >>= g) t) :
    (m >>= k) s = (readInOrder u f (x :: xs) >>= g) s := by
  rw [readInOrder, dec_bind_assoc]
  by_cases h : f + x.1 + x.2.1 ≤ s.lim
  · obtain ⟨a, ha⟩ := hle h
    rw [dec_bind_ok ha, dec_bind_ok (readOne_of_le h)]
    exact hk a _ rfl
  · rw [dec_bind_error (hlt (Nat.lt_of_not_le h)), dec_bind_error (readOne_of_lt (Nat.lt_of_not_le h))]

theorem readField_bind_eq {a n : Nat} {b : VBit} {w : Nat → Record → Record} {k : Nat → Dec Unit}
    {g : Unit → Dec Unit} {xs : Fields} {m : Memory} (hs : s.buf = m)
    (hk : ∀ v t, t.buf = m → k v t = (readInOrder u f xs >>= g) t) :
    (readField u (f + a) n b w >>= k) s =
      (readInOrder u f ((a, n, b.mask, w (beNat (Memory.bytes m (f + a) n))) :: xs) >>= g) s := by
  subst hs
  exact bind_eq_readInOrder (fun h => ⟨_, readField_of_le h⟩) readField_of_lt hk

end Order

/-! The header as fields in order (43 R170). -/

section Header

variable (c : Config) (f : Nat) (op : Half) (s : State)

theorem headerFields_inOrder (cls : Nat) : InOrder (headerFields s f op cls) := by
  simp [InOrder, headerFields]

/-- S_MARKER to S_OPCODE, then what follows them. -/
theorem leOpening_bind_eq (k : Dec Unit) {g : Unit → Dec Unit} {xs : Fields}
    (hk : ∀ t : State, t.buf = s.buf → k t = (readInOrder .leControl f xs >>= g) t) :
    (leOpening c f op >>= fun _ => k) s =
      (readInOrder .leControl f ((headerFields s f op (opclass c op)).take 4 ++ xs) >>= g) s := by
  simp only [leOpening, dec_bind_assoc]
  refine readField_bind_eq (a := 0) rfl fun _ _ h1 => ?_
  refine readField_bind_eq h1 fun _ _ h2 => ?_
  refine readField_bind_eq h2 fun _ _ h3 => ?_
  exact readField_bind_eq h3 fun _ t h4 => hk t h4

theorem leStatus_bind_eq {k : Dec Unit} {g : Unit → Dec Unit} {xs : Fields} {m : Memory} (hs : s.buf = m)
    (hk : ∀ t : State, t.buf = m → k t = (readInOrder .leControl f xs >>= g) t) :
    (leStatus f op >>= fun _ => k) s =
      (readInOrder .leControl f ((6, 2, if op.getLsbD 8 then 0x400 else 0, fun r =>
        if op.getLsbD 8 then { r with status := BitVec.ofNat 16 (beNat (Memory.bytes m (f + 6) 2)) } else r) :: xs)
        >>= g) s := by
  subst hs
  refine bind_eq_readInOrder (fun h => ⟨(), ?_⟩) (fun h => ?_) fun _ t ht => hk t ht
  · rw [leStatus_eq, if_pos h]
    unfold isResponse wrote
    cases op.getLsbD 8
    · simp
    · rfl
  · rw [leStatus_eq, if_neg (Nat.not_le.mpr h)]

/-- S_STATUS to S_FLAGS, then what follows them. -/
theorem leFields_bind_eq (k : Dec Unit) {t : State} (ht : t.buf = s.buf) :
    (leFields c f op >>= fun _ => k) t =
      (readInOrder .leControl f ((headerFields s f op (opclass c op)).drop 4) >>= fun _ =>
        put' (flagBits c op) >>= fun _ => setCur (f + 16) >>= fun _ => k) t := by
  simp only [leFields, dec_bind_assoc]
  refine leStatus_bind_eq f op t ht fun _ h1 => ?_
  refine readField_bind_eq h1 fun _ _ h2 => ?_
  refine readField_bind_eq h2 fun _ _ h3 => ?_
  exact readField_bind_eq h3 fun _ _ _ => rfl

/-- `le_control(F)` for an opcode whose decode goes past it (43 R170, R174). -/
theorem leControl_eq_readInOrder (f : Word) (hready : isReady c op = false) :
    leControl c f op s = (readInOrder .leControl f.toNat (headerFields s f.toNat op (opclass c op)) >>= fun _ =>
      put' (flagBits c op) >>= fun _ => setCur (f.toNat + 16) >>= fun _ => leBody c f op) s := by
  have hrest : (if isReady c op then finish else leFields c f.toNat op >>= fun _ => leBody c f op) =
      leFields c f.toNat op >>= fun _ => leBody c f op := by rw [hready]; rfl
  refine leOpening_bind_eq c f.toNat op s _ (xs := (headerFields s f.toNat op (opclass c op)).drop 4) fun t ht => ?_
  rw [hrest]
  exact leFields_bind_eq c f.toNat op s (leBody c f op) ht

end Header

/-! The opcodes of 30_encoding R97. -/

theorem opcodeRows_spec : ∀ e ∈ opcodeRows, opclass Config.aldb e.2.1 = e.2.2.1 ∧
    ∀ f, rowIn Config.aldb (e.1 f) = leControl Config.aldb f e.2.1 := by
  simp only [opcodeRows, List.cons_append, List.nil_append, List.forall_mem_cons]
  refine ⟨?_, ?_, ?_, ?_, ?_, ?_, ?_, ?_, ?_, ?_, ?_, ?_, ?_, ?_, ?_, ?_, ?_, ?_, nofun⟩
  all_goals exact ⟨rfl, fun _ => rfl⟩

theorem opclass_unknown {op : Half} (h : ∀ e ∈ opcodeRows, op ≠ e.2.1) : opclass Config.aldb op = 31 := by
  have hlist : Config.aldb.leOpcodes = opcodeRows.map fun e => e.2.1 := rfl
  have hnone : opcodeIndex Config.aldb op = none := by
    rw [opcodeIndex, hlist, List.findIdx?_eq_none_iff]
    intro v hv
    obtain ⟨e, he, rfl⟩ := List.mem_map.mp hv
    exact beq_false_of_ne (h e he).symm
  rw [opclass, hnone]
  rfl

/-- Settles O24: the row is the header's fields in order, and its first cut field ends it. -/
theorem headerTruncation : Obligations.HeaderTruncation := by
  intro s f i op cls hrow pre x post hxs hpre hx
  have hspec : rowIn Config.aldb i = leControl Config.aldb f op ∧ opclass Config.aldb op = cls ∧ cls ≠ 4 ∧ cls ≠ 5 := by
    rcases hrow with ⟨e, he, rfl, rfl, rfl, h4, h5⟩ | ⟨rfl, rfl, hunknown⟩
    · obtain ⟨hcls, hrun⟩ := opcodeRows_spec e he
      exact ⟨hrun f, hcls, h4, h5⟩
    · exact ⟨rfl, opclass_unknown hunknown, by decide, by decide⟩
  obtain ⟨hrun, rfl, h4, h5⟩ := hspec
  have hready : isReady Config.aldb op = false := by simp [isReady, h4, h5]
  rw [exec_eq, hrun, settle_of_cut (leControl_eq_readInOrder _ op s f hready) (headerFields_inOrder _ _ _ _) hxs hpre hx]

/-- Settles O25: such a frame selects no row, and the opening's fields in order end at the first that is cut. -/
theorem shortFrameRaises : Obligations.ShortFrameRaises := by
  intro s f hp hb hu hlim pre x post hxs hpre hx
  have hstep : step s = .next (settle (leShort Config.aldb f s)) :=
    (step_busy hp hb).trans (engineStep_shortFrame _ _ (fetchIn_lec_short hu hlim))
  have hopen : leShort Config.aldb f s =
      (readInOrder .leControl f.toNat ((headerFields s f.toNat 0 31).take 4) >>= pure) s := by
    have h := leOpening_bind_eq Config.aldb f.toNat 0 s (pure ()) (xs := []) (g := pure) fun _ _ => rfl
    rwa [dec_bind_pure, List.append_nil] at h
  have hord : InOrder ((headerFields s f.toNat 0 31).take 4) :=
    (headerFields_inOrder f.toNat 0 s 31).sublist (List.take_sublist 4 _)
  rw [hstep, settle_of_cut hopen hord hxs hpre hx]

/-- Settles O17: the client id is the row's one read, at the slice's start. -/
theorem laneDataResult : Obligations.LaneDataResult := by
  intro s po pl hlim
  have hdata : ∀ t, settle (laneData t po.toNat pl.toNat s) =
      if 2 ≤ pl.toNat then
        ended (dispatched
          { wrote s 0x20 (fun r => { r with laneClient := BitVec.ofNat 16 (be s po.toNat 2) })
            with cur := po.toNat + 2 } t (po.toNat + 2) (pl.toNat - 2))
      else raised s .truncatedBuffer .laneDispatch po.toNat := by
    intro t
    split
    · next h =>
      rw [laneData, dec_bind_ok (readField_of_le (by omega))]
      rfl
    · next h =>
      rw [laneData, dec_bind_error (readField_of_lt (by omega))]
      rfl
  simp [exec_eq, rowIn, hdata]

end Sys2Proof.Proofs
end

section
/-! PROOFS. Surroundings: a job in two surroundings of the host's: what a row does depends on nothing of the descriptor
registers, of the port, or of the buffer at or above its limit (10_state R31, 20_memory R66, R69). -/

namespace Sys2Proof.Proofs

open Sys2Proof Sys2Proof.Machine Sys2Proof.Safety Sys2Proof.Laws

/-- A job's state in the surroundings of `o`: the buffer, the descriptor registers, IRQ_EN and the host's port. -/
def surround (o s : State) : State :=
  { s with
    buf := o.buf, desc := o.desc, irqEn := o.irqEn, port := o.port, rdata := o.rdata, bdata := o.bdata
    freeCount := o.freeCount }

/-- What a decode step leaves, in the surroundings of `o`. -/
def surroundResult {α : Type} (o : State) : EStateM.Result JobError State α → EStateM.Result JobError State α
  | .ok a t => .ok a (surround o t)
  | .error e t => .error e (surround o t)

/-- Two buffers read alike below an offset. -/
def AgreeBelow (n : Nat) (m m' : Memory) : Prop := ∀ a < n, Memory.read m a = Memory.read m' a

/-- The limit and the buffer as they were. -/
def SameView (s t : State) : Prop := t.lim = s.lim ∧ t.buf = s.buf

/-- A decode step that reads the buffer below the limit alone, and moves neither. -/
structure Indifferent {α : Type} (m : Dec α) : Prop where
  run : ∀ o s, AgreeBelow s.lim o.buf s.buf → m (surround o s) = surroundResult o (m s)
  view : Leaves SameView m

section Indifferent

variable {α β : Type} {o s : State}

theorem bytes_surround {a n : Nat} (h : AgreeBelow s.lim o.buf s.buf) (hn : a + n ≤ s.lim) :
    Memory.bytes o.buf a n = Memory.bytes s.buf a n := bytes_congr fun b _ hb => h b (by omega)

theorem surroundResult_bind {m : Dec α} {g : α → Dec β} {s' : State} (hm : m s' = surroundResult o (m s))
    (hg : ∀ a t, m s = .ok a t → g a (surround o t) = surroundResult o (g a t)) :
    (m >>= g) s' = surroundResult o ((m >>= g) s) := by
  cases hr : m s with
  | ok a t =>
    rw [hr] at hm
    rw [dec_bind_ok hm, dec_bind_ok hr]
    exact hg a t hr
  | error e t =>
    rw [hr] at hm
    rw [dec_bind_error hm, dec_bind_error hr]
    rfl

theorem indifferent_bind {m : Dec α} {g : α → Dec β} (hm : Indifferent m) (hg : ∀ a, Indifferent (g a)) :
    Indifferent (m >>= g) where
  run o s h := by
    refine surroundResult_bind (hm.run o s h) fun a t ht => (hg a).run o t ?_
    have hv := hm.view s
    rw [ht] at hv
    obtain ⟨hlim, hbuf⟩ := hv
    change t.lim = s.lim at hlim
    change t.buf = s.buf at hbuf
    rwa [hlim, hbuf]
  view := leaves_bind (fun _ _ _ h k => ⟨k.1.trans h.1, k.2.trans h.2⟩) hm.view fun a => (hg a).view

theorem indifferent_put' {g : State → State} (hrun : ∀ o s, g (surround o s) = surround o (g s))
    (hview : ∀ s, SameView s (g s)) : Indifferent (put' g) where
  run o s _ := congrArg (EStateM.Result.ok ()) (hrun o s)
  view := hview

theorem indifferent_pure (a : α) : Indifferent (pure a : Dec α) := ⟨fun _ _ _ => rfl, fun _ => ⟨rfl, rfl⟩⟩

theorem indifferent_memRead (u : ErrUnit) (a n : Nat) : Indifferent (memRead u a n) where
  run o s h := by
    by_cases hn : a + n ≤ s.lim
    · rw [memRead_of_le (s := surround o s) hn, memRead_of_le hn]
      exact congrArg (fun bs => EStateM.Result.ok (beNat bs) (surround o s)) (bytes_surround h hn)
    · rw [memRead_of_lt (s := surround o s) (Nat.lt_of_not_le hn), memRead_of_lt (Nat.lt_of_not_le hn)]
      rfl
  view := leaves_memRead (fun _ => ⟨rfl, rfl⟩) u a n

theorem indifferent_memBytes (u : ErrUnit) (a n : Nat) : Indifferent (memBytes u a n) where
  run o s h := by
    by_cases hn : a + n ≤ s.lim
    · rw [memBytes_of_le (s := surround o s) hn, memBytes_of_le hn]
      exact congrArg (fun bs => EStateM.Result.ok bs (surround o s)) (bytes_surround h hn)
    · rw [memBytes_of_lt (s := surround o s) (Nat.lt_of_not_le hn), memBytes_of_lt (Nat.lt_of_not_le hn)]
      rfl
  view := leaves_memBytes (fun _ => ⟨rfl, rfl⟩) u a n

theorem indifferent_look {m : Latch → Record → Nat → Dec α} (hm : ∀ dl r n, Indifferent (m dl r n)) :
    Indifferent fun s => m s.dl s.r s.lim s :=
  ⟨fun o s => (hm s.dl s.r s.lim).run o s, fun s => (hm s.dl s.r s.lim).view s⟩

theorem indifferent_putRecord {g : State → Record} (hg : ∀ o s, g (surround o s) = g s) :
    Indifferent (put' fun s => { s with r := g s }) :=
  indifferent_put' (fun o s => congrArg (fun r => { surround o s with r := r }) (hg o s)) fun _ => ⟨rfl, rfl⟩

theorem indifferent_putField (g : Record → Record) (b : VBit) : Indifferent (putField g b) :=
  indifferent_put' (fun _ _ => rfl) fun _ => ⟨rfl, rfl⟩

/-- The name of a body: `len` bytes, none when `len` is 0 (44 R211). -/
def nameSteps (a len : Nat) : Dec Unit :=
  if 0 < len then do
    let bs ← memBytes .leBody a len
    put' fun t => { t with r := { t.r with name := packName bs } }
  else pure ()

theorem readName_eq_nameSteps (a : Nat) : readName a = fun s => nameSteps a s.r.nameLen.toNat s := by
  funext s
  rw [readName, nameSteps]
  split <;> rfl

theorem indifferent_nameSteps (a len : Nat) : Indifferent (nameSteps a len) := by
  unfold nameSteps
  split
  · exact indifferent_bind (indifferent_memBytes _ _ _) fun _ => indifferent_putRecord fun _ _ => rfl
  · exact indifferent_pure ()

theorem indifferent_elanName (c : Config) (a : Nat) : Indifferent (elanName c a) := by
  have hname : Indifferent (readName a) := by
    rw [readName_eq_nameSteps]
    exact indifferent_look (m := fun _ r _ => nameSteps a r.nameLen.toNat) fun _ _ _ => indifferent_nameSteps _ _
  exact indifferent_bind hname fun _ => indifferent_bind (indifferent_putField _ _) fun _ =>
    indifferent_put' (fun _ _ => rfl) fun _ => ⟨rfl, rfl⟩

theorem indifferent_tlvFits (t len : Nat) : Indifferent (tlvFits t len) where
  run o s _ := by
    rw [tlvFits_eq, tlvFits_eq]
    show (if s.lim < _ then _ else _) = _
    split <;> rfl
  view s := by
    rw [tlvFits_eq]
    split <;> exact ⟨rfl, rfl⟩

theorem indifferent_tlvLoop (n k t : Nat) : Indifferent (tlvLoop n k t) := by
  induction n generalizing k t with
  | zero => exact indifferent_pure ()
  | succ n ih =>
    exact indifferent_bind (indifferent_memRead _ _ _) fun _ =>
      indifferent_bind (indifferent_memRead _ _ _) fun _ =>
      indifferent_bind (indifferent_tlvFits _ _) fun _ =>
      indifferent_bind (indifferent_put' (fun _ _ => rfl) fun _ => ⟨rfl, rfl⟩) fun _ => ih _ _

theorem indifferent_rowRule (c : Config) : RowRule c fun m => Indifferent m where
  pure := indifferent_pure
  bind := indifferent_bind
  raiseIn _ _ _ _ _ := ⟨fun _ _ _ => rfl, fun _ => ⟨rfl, rfl⟩⟩
  memRead _ _ _ _ := indifferent_memRead _ _ _
  memBytes _ _ _ _ := indifferent_memBytes _ _ _
  putField _ := indifferent_putField _ _
  setCur _ := indifferent_put' (fun _ _ => rfl) fun _ => ⟨rfl, rfl⟩
  skip _ := indifferent_put' (fun _ _ => rfl) fun _ => ⟨rfl, rfl⟩
  enter _ := indifferent_put' (fun _ _ => rfl) fun _ => ⟨rfl, rfl⟩
  finish := indifferent_put' (fun _ _ => rfl) fun _ => ⟨rfl, rfl⟩
  look := indifferent_look
  elanName := indifferent_elanName c
  tlvRun _ _ _ := indifferent_bind (indifferent_putField _ _) fun _ =>
    indifferent_bind (indifferent_put' (fun _ _ => rfl) fun _ => ⟨rfl, rfl⟩) fun _ => indifferent_tlvLoop _ _ _

theorem indifferent_tailTrailer (l : Nat) : Indifferent (tailTrailer l) :=
  indifferent_bind (indifferent_memRead _ _ _) fun _ => indifferent_bind (indifferent_putRecord fun _ _ => rfl) fun _ =>
  indifferent_bind (indifferent_memRead _ _ _) fun _ => indifferent_bind (indifferent_putRecord fun _ _ => rfl) fun _ =>
  indifferent_bind (indifferent_memRead _ _ _) fun _ => indifferent_putField _ _

end Indifferent

/-! Rows (20_memory R66). -/

section Rows

variable {c : Config} {o s : State}

theorem jobEnter_surround : jobEnter c (surround o s) = surroundResult o (jobEnter c s) := by
  show (if c.bufCap < s.dl.l.toNat then _ else _) = surroundResult o (if c.bufCap < s.dl.l.toNat then _ else _)
  split <;> rfl

theorem jobEnter_dl {a : Unit} {t : State} (h : jobEnter c s = .ok a t) : t.lim = s.dl.l.toNat ∧ t.buf = s.buf := by
  rw [jobEnter_eq] at h
  split at h <;> cases h
  exact ⟨rfl, rfl⟩

/-- A job's opening sets the limit to DL.L, so the rest of the job row reads below that. -/
theorem job_surround {g : Unit → Dec Unit} (hg : Indifferent (g ())) (h : AgreeBelow s.dl.l.toNat o.buf s.buf) :
    (jobEnter c >>= g) (surround o s) = surroundResult o ((jobEnter c >>= g) s) :=
  surroundResult_bind jobEnter_surround fun _ t ht => by
    obtain ⟨hlim, hbuf⟩ := jobEnter_dl ht
    exact hg.run o t (by rwa [hlim, hbuf])

theorem indifferent_pduTail (l : Nat) : Indifferent (pduTail c l) :=
  indifferent_bind (indifferent_rowRule c).tailFits fun _ => indifferent_bind (indifferent_tailTrailer l) fun _ =>
    (indifferent_rowRule c).tailRest l

/-- What a job row does once its opening has set the limit, from the latch it is entered with. -/
theorem rowIn_of_job {i : Instr} (hjob : i.format = .job) (dl : Latch) :
    ∃ g : Unit → Dec Unit, Indifferent (g ()) ∧ ∀ s : State, s.dl = dl → rowIn c i s = (jobEnter c >>= g) s := by
  have hr := indifferent_rowRule c
  cases i with
  | jobCell => exact ⟨_, hr.cellPath, fun _ _ => rfl⟩
  | jobPduTrunc => exact ⟨_, hr.pduTrunc, fun _ _ => rfl⟩
  | jobPduTail => exact ⟨fun _ => pduTail c dl.l.toNat, indifferent_pduTail dl.l.toNat, fun s hs => hs ▸ rfl⟩
  | jobPduCut => exact ⟨_, hr.pduCut, fun _ _ => rfl⟩
  | _ => cases hjob

/-- A row's outcome in two surroundings whose buffers agree below its limit. -/
theorem rowIn_surround (i : Instr) (h : AgreeBelow (limitOf i s) o.buf s.buf) :
    rowIn c i (surround o s) = surroundResult o (rowIn c i s) := by
  by_cases hjob : i.format = .job
  · rw [limitOf, if_pos hjob] at h
    obtain ⟨g, hg, hrun⟩ := rowIn_of_job (c := c) hjob s.dl
    rw [hrun (surround o s) rfl, hrun s rfl]
    exact job_surround hg h
  · rw [limitOf, if_neg hjob] at h
    by_cases hlane : ∃ po pl, i = .pduLane po pl
    · obtain ⟨po, pl, rfl⟩ := hlane
      rfl
    · exact ((indifferent_rowRule c).rowIn hjob fun po pl hi => hlane ⟨po, pl, hi⟩).run o s h

theorem settle_surround {x y : EStateM.Result JobError State Unit} (h : x = surroundResult o y) :
    settle x = surround o (settle y) := by
  subst h
  cases y <;> rfl

/-- A state that keeps its frame, in the surroundings of that frame with another buffer. -/
theorem surround_buf {t : State} (h : EngineFrame s t) (m : Memory) :
    surround { s with buf := m } t = { t with buf := m } := by
  simp only [surround, h.desc, h.irqEn, h.port, h.rdata, h.bdata, h.freeCount]

/-- A state that keeps its frame, in the surroundings of that frame with another descriptor. -/
theorem surround_desc {t : State} (h : EngineFrame s t) (d : Descriptor) :
    surround { s with desc := d } t = { t with desc := d } := by
  simp only [surround, h.buf, h.irqEn, h.port, h.rdata, h.bdata, h.freeCount]

end Rows

/-- Settles O53: the other buffer is another surrounding, and the row leaves the rest of its surroundings alone. -/
theorem rowReadsOnlyBelowLimit : Obligations.RowReadsOnlyBelowLimit := by
  intro i s m h
  have hframe : EngineFrame s (settle (rowIn Config.aldb i s)) :=
    engineFrame_settle (engineFrame_respected.leaves_rowIn _ i) s
  have hrun := settle_surround (rowIn_surround (c := Config.aldb) (o := { s with buf := m }) i h)
  rw [exec_eq, exec_eq]
  exact congrArg Host.Outcome.next (hrun.trans (surround_buf hframe m))

end Sys2Proof.Proofs
end

section
/-! PROOFS. Independence: START fills the latch and a job reads the latch alone; so its report depends on the descriptor
and on the captured bytes alone (10_state R31, 20_memory R69, 70_reset R288). -/

namespace Sys2Proof.Proofs

open Sys2Proof Sys2Proof.Machine Sys2Proof.Safety Sys2Proof.Laws

/-! The engine's turn in two surroundings. -/

section Turns

variable {c : Config} {o s : State} {i : Instr}

theorem format_selectJob (c : Config) (aal : BitVec 8) (t : Bool) (l rl : Word) :
    (selectJob c aal t l rl).format = .job := by
  unfold selectJob
  split_ifs <;> rfl

/-- What is selected depends on the latch, the unit, the record and, for a frame, on its opcode inside the limit. -/
theorem fetchIn_surround (h : s.unit ≠ .job → AgreeBelow s.lim o.buf s.buf) :
    fetchIn c (surround o s) = fetchIn c s := by
  have hu' : (surround o s).unit = s.unit := rfl
  cases hu : s.unit with
  | lec f =>
    simp only [fetchIn, hu', hu]
    show (if f.toNat + 6 ≤ s.lim then fetchRow c .lecOpcode (opcodeAt o.buf f.toNat ++ wordBytes f) else _) = _
    by_cases hf : f.toNat + 6 ≤ s.lim
    · have hop : opcodeAt o.buf f.toNat = opcodeAt s.buf f.toNat :=
        bytes_surround (h (by rw [hu]; nofun)) (by omega)
      rw [hop]
      rfl
    · rw [if_neg hf, fetchOpcode, if_neg hf]
  | _ =>
    simp only [fetchIn, hu', hu] <;> rfl

/-- A row is selected for its own unit: a job's for the opening, which reads below DL.L, another under LIM. -/
theorem agreeBelow_limitOf (hl : AgreeBelow s.dl.l.toNat o.buf s.buf)
    (h : s.unit ≠ .job → AgreeBelow s.lim o.buf s.buf) (hf : fetchIn c s = .row i) :
    AgreeBelow (limitOf i s) o.buf s.buf := by
  unfold limitOf
  split
  · exact hl
  · next hjob =>
    refine h fun hu => hjob ?_
    rw [fetchIn_job hu] at hf
    cases hf
    exact format_selectJob ..

theorem engineStep_surround (hl : AgreeBelow s.dl.l.toNat o.buf s.buf)
    (h : s.unit ≠ .job → AgreeBelow s.lim o.buf s.buf) :
    engineStep Config.aldb exec (surround o s) = mapNext (surround o) (engineStep Config.aldb exec s) := by
  have hf' := fetchIn_surround (c := Config.aldb) h
  cases hf : fetchIn Config.aldb s with
  | row i =>
    rw [engineStep_row _ _ (hf'.trans hf), engineStep_row _ _ hf, exec_eq, exec_eq]
    exact congrArg Host.Outcome.next (settle_surround (rowIn_surround i (agreeBelow_limitOf hl h hf)))
  | shortFrame f =>
    obtain ⟨hu, -⟩ := lec_of_shortFrame hf
    have hrun := ((indifferent_rowRule Config.aldb).leOpening f.toNat 0).run o s (h (by rw [hu]; nofun))
    rw [engineStep_shortFrame _ _ (hf'.trans hf), engineStep_shortFrame _ _ hf, runRow_eq, runRow_eq]
    exact congrArg Host.Outcome.next (settle_surround hrun)
  | noBody =>
    rw [engineStep_noBody _ _ (hf'.trans hf), engineStep_noBody _ _ hf]
    rfl
  | rejected e => simp only [engineStep, hf'.trans hf, hf, mapNext]

end Turns

/-! START (10_state R31). -/

/-- The latch's bytes are the descriptor's, by place. -/
theorem latchOf_eq (d : Descriptor) :
    latchOf d = {
      l := d.capLen, rl := d.repLen
      aal := BitVec.ofNat 8 d.cls.toNat, trafType := BitVec.ofNat 8 (d.cls.toNat / 0x100)
      trafSubtype := BitVec.ofNat 8 (d.cls.toNat / 0x10000), channel := BitVec.ofNat 8 (d.cls.toNat / 0x1000000)
      truncated := d.flags.getLsbD 0, cellCount := d.cellCount
      metaUu := BitVec.ofNat 8 d.metaA.toNat, metaCpi := BitVec.ofNat 8 (d.metaA.toNat / 0x100)
      metaLen := BitVec.ofNat 16 (d.metaA.toNat / 0x10000), metaCrc := d.metaCrc } := by
  simp [latchOf, extractLsb'_eq_ofNat]

/-- Settles O35: START's write, and the descriptor as a surrounding of the job. -/
theorem startLatchesAndClears : Obligations.StartLatchesAndClears := by
  refine ⟨fun s rest v hp hi hs hr => ?latches, fun s d hp hb => ?reads⟩
  case latches =>
    rw [step_ctrl hp, ctrlWrite_start (s := { s with port := rest }) hr hs hi, State.start, latchOf_eq]
  case reads =>
    have hturn : engineStep Config.aldb exec { s with desc := d } =
        mapNext (surround { s with desc := d }) (engineStep Config.aldb exec s) :=
      engineStep_surround (o := { s with desc := d }) (fun _ _ => rfl) fun _ _ _ => rfl
    rw [step_busy (s := { s with desc := d }) hp hb, step_busy hp hb, hturn]
    cases ht : engineStep Config.aldb exec s with
    | next t => exact congrArg Host.Outcome.next (surround_desc (engineFrame_engineStep ht) d)
    | _ => rfl

/-! A job run to its end in two surroundings (20_memory R69). -/

section Runs

variable {o s t : State}

theorem step_surround (hinv : Inv s) (hp : s.port = []) (ho : o.port = [])
    (h : AgreeBelow s.dl.l.toNat o.buf s.buf) : step (surround o s) = mapNext (surround o) (step s) := by
  cases hphase : s.phase with
  | idle =>
    rw [step_idle hp hphase, step_idle (s := surround o s) ho hphase]
    rfl
  | busy =>
    rw [step_busy hp hphase, step_busy (s := surround o s) ho hphase]
    exact engineStep_surround h fun hu a ha => h a (ha.trans_le (hinv.limLatch hphase hu))

/-- With nothing pending from the host, a step moves neither the buffer, the latch nor the port. -/
theorem engineFrame_step (hp : s.port = []) (ht : step s = .next t) : EngineFrame s t := by
  cases hphase : s.phase with
  | idle =>
    rw [step_idle hp hphase] at ht
    cases ht
    exact ⟨rfl, rfl, rfl, rfl, rfl, rfl, rfl, rfl⟩
  | busy =>
    rw [step_busy hp hphase] at ht
    exact engineFrame_engineStep ht

theorem runFor_surround (k : Nat) (hinv : Inv s) (hp : s.port = []) (ho : o.port = [])
    (h : AgreeBelow s.dl.l.toNat o.buf s.buf) : runFor k (surround o s) = (runFor k s).map (surround o) := by
  induction k generalizing s with
  | zero => rfl
  | succ k ih =>
    have hstep := step_surround hinv hp ho h
    cases ht : step s with
    | next t =>
      rw [ht] at hstep
      have hframe := engineFrame_step hp ht
      rw [runFor_succ k ht, runFor_succ k hstep]
      exact ih (stepKeepsInv s t hinv ht) (hframe.port.trans hp) (by rwa [hframe.dl, hframe.buf])
    | _ =>
      rw [ht] at hstep
      simp only [runFor, ht, hstep, mapNext, Option.map_none]

/-- A job's opening sets the limit, or refuses the descriptor: what an earlier job left in it is not reported. -/
theorem runFor_report_of_lim (k n : Nat) (hb : s.phase = .busy) (hu : s.unit = .job) (hp : s.port = []) :
    (runFor (k + 1) { s with lim := n }).map report = (runFor (k + 1) s).map report := by
  obtain ⟨g, -, hrun⟩ := rowIn_of_job (c := Config.aldb)
    (format_selectJob Config.aldb s.dl.aal s.dl.truncated s.dl.l s.dl.rl) s.dl
  have hstep : ∀ x : State, x.phase = .busy → x.unit = .job → x.port = [] → x.dl = s.dl →
      step x = .next (settle ((jobEnter Config.aldb >>= g) x)) := by
    intro x hxb hxu hxp hxd
    rw [step_busy hxp hxb, engineStep_row _ _ (fetchIn_job hxu), exec_eq, hxd, hrun x hxd]
  rw [runFor_succ k (hstep { s with lim := n } hb hu hp rfl), runFor_succ k (hstep s hb hu hp rfl)]
  by_cases hl : Config.aldb.bufCap < s.dl.l.toNat
  · rw [dec_bind_error (s := s) ((jobEnter_eq _ _).trans (if_pos hl)),
      dec_bind_error (s := { s with lim := n }) ((jobEnter_eq _ _).trans (if_pos hl))]
    have hidle : ∀ (x : State) (e : JobError), x.port = [] →
        runFor k (settle (.error e x)) = some (settle (.error e x)) :=
      fun x e hx => runFor_idle (s := settle (.error e x)) hx rfl k
    rw [hidle s _ hp, hidle { s with lim := n } _ hp]
    rfl
  · rw [dec_bind_ok (s := s) ((jobEnter_eq _ _).trans (if_neg hl)),
      dec_bind_ok (s := { s with lim := n }) ((jobEnter_eq _ _).trans (if_neg hl))]

/-- What START leaves, the host's next transactions away. -/
def started (s : State) : State := ({ s with port := [], irqEn := false }).start

theorem step_started (hi : s.phase = .idle) (hp : s.port = [.wr 0x000 4 1]) : step s = .next (started s) :=
  (step_ctrl hp).trans (congrArg Host.Outcome.next
    (ctrlWrite_start (v := 1) (s := { s with port := [] }) rfl rfl hi))

/-- With equal descriptors two jobs start alike, their surroundings and the limits left from before apart. -/
theorem started_surround {s' : State} (hd : s'.desc = s.desc) :
    started s' = { surround (started s') (started s) with lim := s'.lim } := by
  simp only [started, surround, State.start, hd]

end Runs

/-- Settles O58: both jobs are one job in two surroundings. -/
theorem jobIndependentOfEarlierRecord : Obligations.JobIndependentOfEarlierRecord := by
  intro s s' hinv _ hi hi' hp hp' hd hbytes
  have hinv' : Inv (started s) := stepKeepsInv s _ hinv (step_started hi hp)
  obtain ⟨t, hrun, -, hdone, -⟩ := busyJobEnds (started s) hinv' rfl rfl
  have hagree : AgreeBelow (started s).dl.l.toNat (started s').buf (started s).buf := hbytes
  have hrun' := runFor_surround (o := started s') 6 hinv' rfl rfl hagree
  have hreport := runFor_report_of_lim (s := surround (started s') (started s)) 5 s'.lim rfl rfl rfl
  rw [← started_surround hd, hrun', hrun] at hreport
  obtain ⟨t', ht', hsame⟩ := Option.map_eq_some_iff.mp hreport
  exact ⟨t, t', (runFor_succ 6 (step_started hi hp)).trans hrun, (runFor_succ 6 (step_started hi' hp')).trans ht',
    hsame.symm, hdone⟩

end Sys2Proof.Proofs
end

section
/-! PROOFS. AccessShape: a register access of another shape than an aligned word is refused (20_memory R62). -/

namespace Sys2Proof.Proofs

open Sys2Proof Sys2Proof.Machine Sys2Proof.Safety Sys2Proof.Laws

/-- A write or a read of the register space is the access check, then an access that always gives a next state. -/
theorem step_eq_regAccess {s : State} {rest : List PortOp} {a size : Nat} {v : Word}
    (hp : s.port = .wr a size v :: rest ∨ s.port = .rd a size :: rest) :
    ∃ t, step s = regAccess a size (.next t) := by
  rcases hp with hp | hp
  · exact ⟨_, stepOf_access _ _ hp nofun nofun⟩
  · exact ⟨_, stepOf_access _ _ hp nofun nofun⟩

/-- Settles O43: the shape is checked before the access, which an aligned word of the register space is served. -/
theorem registerAccessShape : Obligations.RegisterAccessShape := by
  intro s rest a size v
  refine ⟨fun hp => ?_, fun hp h4 => ?expect⟩
  · obtain ⟨t, hstep⟩ := step_eq_regAccess hp
    refine ⟨fun hshape => hstep.trans (regAccess_shape hshape _), ?_⟩
    rintro rfl h4 ha
    exact ⟨t, hstep.trans (regAccess_word h4 ha _)⟩
  case expect => exact (stepOf_access _ _ hp nofun nofun).trans (regAccess_shape (.inr h4) _)

end Sys2Proof.Proofs
end

section
/-! PROOFS. Bodies: where a LAN destination and the LE Control bodies run past the limit, and what they keep
(44_le_bodies R210 to R219, 45_lan_dest_tlv R240 to R243). -/

namespace Sys2Proof.Proofs

open Sys2Proof Sys2Proof.Machine Sys2Proof.Safety Sys2Proof.Laws

/-! LAN destinations (45 R240). -/

section LanDest

variable {c : Config} {s : State} {d i : Nat}

theorem routeLanId_eq (w : Nat) : routeLanId w = BitVec.ofNat 12 (w / 16) := by
  apply BitVec.eq_of_toNat_eq
  simp only [routeLanId, BitVec.extractLsb'_toNat, BitVec.toNat_ofNat, Nat.shiftRight_eq_div_pow]
  omega

theorem routeBridge_eq (w : Nat) : routeBridge w = BitVec.ofNat 4 (w % 16) := by
  apply BitVec.eq_of_toNat_eq
  simp only [routeBridge, BitVec.extractLsb'_toNat, BitVec.toNat_ofNat, Nat.shiftRight_eq_div_pow]
  omega

/-- The 16-bit tag read is a tag value just when its integer is. -/
theorem ofNat_be_two_eq_iff (s : State) (d : Nat) (t : Half) : BitVec.ofNat 16 (be s d 2) = t ↔ be s d 2 = t.toNat := by
  have hlt : be s d 2 < 2 ^ 16 := beNat_bytes_lt s.buf d 2
  rw [← BitVec.toNat_inj, BitVec.toNat_ofNat, Nat.mod_eq_of_lt hlt]

/-- What a LAN destination decoded at `d` leaves (45 R240, R244). -/
def ldKept (c : Config) (d i : Nat) (s : State) : State :=
  { wrote s (ldBit i).mask (fun r => r.setLd i (ldAt c s d (r.ld i))) with cur := d + 8 }

/-- A form's one read, which ends where the entry does, then the slot's write: whole, or nothing of it (45 R241,
R242). -/
theorem memRead_bind_ldWrite {o n : Nat} (hend : o + n = d + 8) (g : Nat → LanDest → LanDest) :
    (memRead .lanDest o n >>= fun v => ldWrite d i (g v)) s =
      (if s.lim < d + 8 then some o else none).elim
        (.ok () { wrote s (ldBit i).mask (fun r => r.setLd i (g (be s o n) (r.ld i))) with cur := d + 8 })
        fun o => .error ⟨.truncatedBuffer, .lanDest, o⟩ s := by
  by_cases h : s.lim < d + 8
  · rw [dec_bind_error (memRead_of_lt (by omega)), if_pos h]
    rfl
  · rw [dec_bind_ok (memRead_of_le (by omega)), if_neg h, ldWrite_eq]
    rfl

/-- A LAN destination is decoded whole, or raises where it is cut with nothing written (45 R240). -/
theorem lanDest_eq_ldCut (c : Config) (d i : Nat) (s : State) :
    lanDest c d i s =
      (ldCut c s d).elim (.ok () (ldKept c d i s)) fun o => .error ⟨.truncatedBuffer, .lanDest, o⟩ s := by
  rw [lanDest_eq, ldForm, ← be]
  simp only [ofNat_be_two_eq_iff, ldCut, ldKept, ldAt, ldDecoded, ← routeLanId_eq, ← routeBridge_eq]
  by_cases h2 : s.lim < d + 2
  · rw [if_neg (Nat.not_le.mpr h2), if_pos h2]
    rfl
  rw [if_pos (Nat.not_lt.mp h2), if_neg h2]
  by_cases hmac : be s d 2 = c.ldTagMac.toNat
  · simp only [if_pos hmac]
    exact memRead_bind_ldWrite (o := d + 2) (n := 6) rfl fun mac v => { v with
      tag := BitVec.ofNat 16 (be s d 2), kind := .macAddress, mac := BitVec.ofNat 48 mac }
  by_cases hroute : be s d 2 = c.ldTagRoute.toNat
  · simp only [if_neg hmac, if_pos hroute]
    exact memRead_bind_ldWrite (o := d + 6) (n := 2) rfl fun w v => { v with
      tag := BitVec.ofNat 16 (be s d 2), kind := .routeDescriptor, lanId := routeLanId w, bridge := routeBridge w }
  · simp only [if_neg hmac, if_neg hroute, ldWrite_eq]
    rfl

theorem lanDest_of_cut {o : Nat} (h : ldCut c s d = some o) :
    lanDest c d i s = .error ⟨.truncatedBuffer, .lanDest, o⟩ s := by rw [lanDest_eq_ldCut, h]; rfl

theorem lanDest_of_fits (h : ldCut c s d = none) : lanDest c d i s = .ok () (ldKept c d i s) := by
  rw [lanDest_eq_ldCut, h]; rfl

theorem ldAt_ldKept (c : Config) (d d' i : Nat) (s : State) : ldAt c (ldKept c d' i s) d = ldAt c s d := rfl

theorem ldCut_ldKept (c : Config) (d d' i : Nat) (s : State) : ldCut c (ldKept c d' i s) d = ldCut c s d := rfl

theorem ldCut_eq_none_of_le (h : d + 8 ≤ s.lim) : ldCut c s d = none := by
  have h2 : ¬ s.lim < d + 2 := by omega
  have h8 : ¬ s.lim < d + 8 := Nat.not_lt.mpr h
  simp [ldCut, h2, h8]

end LanDest

/-! Fields in order: all of them read, and a field's value handed on. -/

section Order

variable {α : Type} {u : ErrUnit} {f : Nat} {x : Field} {s : State}

/-- Fields that all fit are all kept. -/
theorem readInOrder_of_fits {xs : Fields} (h : ∀ y ∈ xs, f + y.1 + y.2.1 ≤ s.lim) :
    readInOrder u f xs s = .ok () (consume s f xs) := by
  induction xs generalizing s with
  | nil => rfl
  | cons y ys ih =>
    obtain ⟨hy, hys⟩ := List.forall_mem_cons.mp h
    exact (dec_bind_ok (readOne_of_le hy)).trans (ih hys)

@[simp] theorem consume_lim (s : State) (f : Nat) (xs : Fields) : (consume s f xs).lim = s.lim := by
  induction xs generalizing s with
  | nil => rfl
  | cons y ys ih => exact ih _

/-- A step that is one field's read, then what follows it with the value read. -/
theorem bind_eq_readInOrder_value {m : Dec α} {k : α → Dec Unit} {g : Unit → Dec Unit} {xs : Fields} {v : α}
    (hle : f + x.1 + x.2.1 ≤ s.lim → m s = .ok v { wrote s x.2.2.1 x.2.2.2 with cur := f + x.1 + x.2.1 })
    (hlt : s.lim < f + x.1 + x.2.1 → m s = .error ⟨.truncatedBuffer, u, f + x.1⟩ s)
    (hk : ∀ t, t.buf = s.buf → k v t = (readInOrder u f xs >>= g) t) :
    (m >>= k) s = (readInOrder u f (x :: xs) >>= g) s := by
  rw [readInOrder, dec_bind_assoc]
  by_cases h : f + x.1 + x.2.1 ≤ s.lim
  · rw [dec_bind_ok (hle h), dec_bind_ok (readOne_of_le h)]
    exact hk _ rfl
  · rw [dec_bind_error (hlt (Nat.lt_of_not_le h)), dec_bind_error (readOne_of_lt (Nat.lt_of_not_le h))]

/-- A one-byte field, by the byte it reads. -/
theorem readByte_bind_eq {a : Nat} {b : VBit} {w : Nat → Record → Record} {w' : Record → Record} {k : Nat → Dec Unit}
    {g : Unit → Dec Unit} {xs : Fields} {m : Memory} (hs : s.buf = m) (hw : w (Memory.read m (f + a)).toNat = w')
    (hk : ∀ t : State, t.buf = m → k (Memory.read m (f + a)).toNat t = (readInOrder u f xs >>= g) t) :
    (readField u (f + a) 1 b w >>= k) s = (readInOrder u f ((a, 1, b.mask, w') :: xs) >>= g) s := by
  subst hs hw
  rw [← beNat_bytes_one] at hk ⊢
  exact bind_eq_readInOrder_value readField_of_le readField_of_lt hk

theorem settle_bind_error {m : Dec α} {k : α → Dec Unit} {t : State} {kind : ErrKind} {o : Nat}
    (h : m s = .error ⟨kind, u, o⟩ t) : settle ((m >>= k) s) = raised t kind u o := by
  rw [dec_bind_error h]
  rfl

end Order

/-! What every body but Verify's begins with (44 R211, R213, R215, R219). -/

section Head

variable {c : Config} {s : State} {f o : Nat}

theorem bodyHead_of_ld0_cut (h : ldCut c s (f + 16) = some o) :
    bodyHead c f s = .error ⟨.truncatedBuffer, .lanDest, o⟩ s := dec_bind_error (lanDest_of_cut h)

theorem bodyHead_of_ld1_cut (h0 : ldCut c s (f + 16) = none) (h1 : ldCut c s (f + 24) = some o) :
    bodyHead c f s = .error ⟨.truncatedBuffer, .lanDest, o⟩
      { wrote s 0x20000 (fun r => { r with ld0 := ldAt c s (f + 16) r.ld0 }) with cur := f + 24 } :=
  (dec_bind_ok (lanDest_of_fits h0)).trans
    (dec_bind_error (lanDest_of_cut ((ldCut_ldKept c _ _ 0 s).trans h1)))

/-- What both LAN destinations of a body leave (44 R211). -/
def ldsKept (c : Config) (s : State) (f : Nat) : State :=
  { wrote s 0x60000 (fun r => { r with ld0 := ldAt c s (f + 16) r.ld0, ld1 := ldAt c s (f + 24) r.ld1 })
    with cur := f + 32 }

theorem ldKept_ldKept (c : Config) (s : State) (f : Nat) :
    ldKept c (f + 24) 1 (ldKept c (f + 16) 0 s) = ldsKept c s f := by
  have hvalid : s.valid ||| 0x20000#32 ||| 0x40000#32 = s.valid ||| 0x60000#32 := BitVec.or_assoc _ _ _
  rw [ldKept, ldAt_ldKept]
  simp [ldKept, ldsKept, wrote, Record.setLd, Record.ld, ldBit, hvalid]

/-- A body's head whose LAN destinations fit is its read of ATM0 after them. -/
theorem bodyHead_of_lds_fit (h0 : ldCut c s (f + 16) = none) (h1 : ldCut c s (f + 24) = none) :
    bodyHead c f s = readAtm0 (f + 32) (ldsKept c s f) := by
  rw [← ldKept_ldKept, bodyHead, dec_bind_ok (lanDest_of_fits h0),
    dec_bind_ok (lanDest_of_fits ((ldCut_ldKept c _ _ 0 s).trans h1))]

theorem bodyHead_of_atm0_cut (h0 : ldCut c s (f + 16) = none) (h1 : ldCut c s (f + 24) = none) (h : s.lim < f + 52) :
    bodyHead c f s = .error ⟨.truncatedBuffer, .leBody, f + 32⟩ (ldsKept c s f) := by
  rw [bodyHead_of_lds_fit h0 h1, readAtm0_eq]
  exact if_neg (Nat.not_le.mpr h)

theorem bodyHead_of_le (h : f + 52 ≤ s.lim) : bodyHead c f s = .ok () (headAt c s f) := by
  have hvalid : s.valid ||| 0x60000#32 ||| 0x80000#32 = s.valid ||| 0xE0000#32 := BitVec.or_assoc _ _ _
  rw [bodyHead_of_lds_fit (ldCut_eq_none_of_le (by omega)) (ldCut_eq_none_of_le (by omega)), readAtm0_eq]
  have hhead := congrArg (fun v => { headAt c s f with valid := v }) hvalid
  exact (if_pos h).trans (congrArg (EStateM.Result.ok ()) hhead)

end Head

/-! The fields of a ConfigureJoin body (44 R211, 30 R90, R91). -/

section ConfigureJoin

variable {c : Config} {s t : State} {f : Nat} {k : Nat → Dec Unit} {g : Unit → Dec Unit} {xs : Fields}

theorem cjFields_inOrder (c : Config) (s : State) (f : Nat) : InOrder (cjFields c s f) := by
  unfold cjFields cjScalarFields cjScalarsAt
  split <;> simp [InOrder]

theorem le_of_mem_cjFields {x : Field} (h : x ∈ cjFields c s f) : 52 ≤ x.1 ∧ x.1 + x.2.1 ≤ 76 := by
  have hall : ∀ y ∈ cjFields c s f, 52 ≤ y.1 ∧ y.1 + y.2.1 ≤ 76 := by
    unfold cjFields cjScalarFields cjScalarsAt
    split <;> simp
  exact hall x h

theorem consume_cjFields_nameLen (c : Config) (s t : State) (f : Nat) :
    (consume t f (cjFields c s f)).r.nameLen = BitVec.ofNat 6 (cjNameLen c s f) := by
  unfold cjFields
  split <;> rfl

theorem readAtm1_bind_eq {a : Nat} {k : Dec Unit} (ht : t.buf = s.buf)
    (hk : ∀ t : State, t.buf = s.buf → k t = (readInOrder .leBody f xs >>= g) t) :
    (readAtm1 (f + a) >>= fun _ => k) t =
      (readInOrder .leBody f ((a, 20, 0x100000, fun r => { r with atm1 := BitVec.ofNat 160 (be s (f + a) 20) }) :: xs)
        >>= g) t := by
  rw [be, ← ht]
  refine bind_eq_readInOrder (fun h => ⟨(), ?_⟩) (fun h => ?_) fun _ u hu => hk u (hu.trans ht)
  · exact (readAtm1_eq _ _).trans (if_pos h)
  · exact (readAtm1_eq _ _).trans (if_neg (Nat.not_le.mpr h))

/-- The four one-byte fields, then what follows them with the count. -/
theorem cjScalars_bind_eq (ht : t.buf = s.buf)
    (hk : ∀ t : State, t.buf = s.buf →
      k (byteAt s (f + cjScalarsAt c + 2)).toNat t = (readInOrder .leBody f xs >>= g) t) :
    (cjScalars c (f + cjScalarsAt c) >>= k) t = (readInOrder .leBody f (cjScalarFields c s f ++ xs) >>= g) t := by
  have hbyte : ∀ b : Byte, BitVec.ofNat 8 b.toNat = b := fun b => BitVec.ofNat_toNat 8 b
  simp only [cjScalars, readNumTlvs, dec_bind_assoc]
  refine readByte_bind_eq ht (by simp only [hbyte]; rfl) fun _ h1 => ?_
  refine readByte_bind_eq (a := cjScalarsAt c + 1) h1 (by simp only [hbyte]; rfl) fun _ h2 => ?_
  refine readByte_bind_eq (a := cjScalarsAt c + 2) h2 (by simp only [hbyte]; rfl) fun _ h3 => ?_
  exact readByte_bind_eq (a := cjScalarsAt c + 3) h3 (by simp only [hbyte]; rfl) fun t h4 => hk t h4

/-- The fields between ATM0 and the name are read in the layout's order (30 R90, R91). -/
theorem cjMiddle_bind_eq (ht : t.buf = s.buf)
    (hk : ∀ t : State, t.buf = s.buf →
      k (byteAt s (f + cjScalarsAt c + 2)).toNat t = (readInOrder .leBody f [] >>= g) t) :
    (cjMiddle c f >>= k) t = (readInOrder .leBody f (cjFields c s f) >>= g) t := by
  cases hl : c.cjLayout with
  | doc =>
    have hat : cjScalarsAt c = 72 := by simp [cjScalarsAt, hl]
    have hscalars := fun (u : State) (hu : u.buf = s.buf) => cjScalars_bind_eq (c := c) hu hk
    rw [hat, List.append_nil] at hscalars
    simp only [cjMiddle, cjFields, hl, if_true, dec_bind_assoc]
    exact readAtm1_bind_eq ht hscalars
  | standard =>
    have hat : cjScalarsAt c = 52 := by simp [cjScalarsAt, hl]
    have hstandard : ¬ CjLayout.standard = .doc := nofun
    simp only [cjMiddle, cjFields, hl, if_neg hstandard, dec_bind_assoc, pure_bind]
    exact hat ▸ cjScalars_bind_eq ht fun _ hu => readAtm1_bind_eq hu hk

/-- What CJ_BODY does after the fields before the name, with the count it read (44 R211). -/
def cjRest (c : Config) (f n : Nat) : Dec Unit := do
  elanName c (f + 76)
  setCur (f + 108)
  enterTlvs f n

/-- A CJ_BODY whose head fits is its fields in order, then the name and the call of the walk. -/
theorem cjBody_eq_readInOrder (h : f + 52 ≤ s.lim) :
    cjBody c f s = (readInOrder .leBody f (cjFields c s f) >>= fun _ =>
      cjRest c f (byteAt s (f + cjScalarsAt c + 2)).toNat) (headAt c s f) :=
  (dec_bind_ok (bodyHead_of_le h)).trans (cjMiddle_bind_eq rfl fun _ _ => rfl)

/-- The first field before the name that is cut ends CJ_BODY. -/
theorem settle_cjBody_of_cut {pre post : Fields} {x : Field} (hxs : cjFields c s f = pre ++ x :: post)
    (hx : f + x.1 ≤ s.lim) (hcut : s.lim < f + x.1 + x.2.1) :
    settle (cjBody c f s) = raised (consume (headAt c s f) f pre) .truncatedBuffer .leBody (f + x.1) := by
  have hmem : x ∈ cjFields c s f := hxs ▸ List.mem_append_right pre List.mem_cons_self
  have h52 : 52 ≤ x.1 := (le_of_mem_cjFields hmem).1
  rw [cjBody_eq_readInOrder (by omega)]
  exact settle_of_cut (s := headAt c s f) rfl (cjFields_inOrder c s f) hxs (.inr hx) hcut

/-- A name that passes the limit ends CJ_BODY with every field before it kept (44 R212). -/
theorem settle_cjBody_of_name_cut (hmax : c.elanNameMax ≤ 32) (h76 : f + 76 ≤ s.lim)
    (hcut : s.lim < f + 76 + cjNameLen c s f) :
    settle (cjBody c f s) =
      raised (consume (headAt c s f) f (cjFields c s f)) .truncatedBuffer .leBody (f + 76) := by
  have hfits : ∀ y ∈ cjFields c s f, f + y.1 + y.2.1 ≤ s.lim := fun y hy => by
    obtain ⟨-, hend⟩ := le_of_mem_cjFields hy
    omega
  have hle : cjNameLen c s f ≤ 32 := (Nat.min_le_right _ _).trans hmax
  have hlen : (consume (headAt c s f) f (cjFields c s f)).r.nameLen.toNat = cjNameLen c s f := by
    rw [consume_cjFields_nameLen, BitVec.toNat_ofNat, Nat.mod_eq_of_lt (by omega)]
  have hname : readName (f + 76) (consume (headAt c s f) f (cjFields c s f)) =
      .error ⟨.truncatedBuffer, .leBody, f + 76⟩ (consume (headAt c s f) f (cjFields c s f)) := by
    rw [readName_eq, hlen, consume_lim, if_neg (by omega)]
    exact if_neg (Nat.not_le.mpr hcut)
  rw [cjBody_eq_readInOrder (by omega), dec_bind_ok (readInOrder_of_fits (s := headAt c s f) hfits)]
  exact settle_bind_error (dec_bind_error hname)

end ConfigureJoin

/-! Where the four bodies end. -/

section Cut

variable {c : Config} {s : State} {f : Nat}

theorem rowIn_eq_bodyHead_bind (c : Config) (f : Word) :
    ∀ i ∈ [Instr.cjBody f, .regBody f, .arpBody f, .flushBody f], ∃ g, rowIn c i = bodyHead c f.toNat >>= g := by
  simp only [List.forall_mem_cons]
  exact ⟨⟨_, rfl⟩, ⟨_, rfl⟩, ⟨_, rfl⟩, ⟨_, rfl⟩, nofun⟩

/-- The TLV count behind the head and two reserved bytes, cut (44 R213, R215). -/
theorem settle_head_of_numTlvs_cut {g : Nat → Dec Unit} (h52 : f + 52 ≤ s.lim) (hcut : s.lim < f + 55) :
    settle ((bodyHead c f >>= fun _ => skip 2 >>= fun _ => readNumTlvs (f + 54) >>= g) s) =
      raised { headAt c s f with cur := f + 54 } .truncatedBuffer .leBody (f + 54) := by
  rw [dec_bind_ok (bodyHead_of_le h52)]
  exact settle_bind_error (m := readNumTlvs (f + 54)) ((readNumTlvs_eq _ _).trans (if_neg (Nat.not_le.mpr hcut)))

/-- ARP_BODY's second address, cut (44 R215). -/
theorem settle_arpBody_of_atm1_cut (h55 : f + 55 ≤ s.lim) (hcut : s.lim < f + 76) :
    settle (arpBody c f s) = raised
      { wrote (headAt c s f) 0x800000 (fun r => { r with numTlvs := byteAt s (f + 54) }) with cur := f + 56 }
      .truncatedBuffer .leBody (f + 56) := by
  have hcount := (readNumTlvs_eq (f + 54) { headAt c s f with cur := f + 54 }).trans (if_pos h55)
  rw [arpBody, dec_bind_ok (bodyHead_of_le (by omega)), dec_bind_ok (skip_apply 2 _)]
  refine (congrArg settle (dec_bind_ok hcount)).trans ?_
  exact settle_bind_error (m := readAtm1 (f + 56)) ((readAtm1_eq _ _).trans (if_neg (Nat.not_le.mpr hcut)))

/-- FLUSH_BODY's second address, cut (44 R219). -/
theorem settle_flushBody_of_atm1_cut (h52 : f + 52 ≤ s.lim) (hcut : s.lim < f + 76) :
    settle (flushBody c f s) = raised { headAt c s f with cur := f + 56 } .truncatedBuffer .leBody (f + 56) := by
  rw [flushBody, dec_bind_ok (bodyHead_of_le h52), dec_bind_ok (skip_apply 4 _)]
  exact settle_bind_error (m := readAtm1 (f + 56)) ((readAtm1_eq _ _).trans (if_neg (Nat.not_le.mpr hcut)))

end Cut

/-- Settles O31: each body is its head, then fields whose first cut ends it. -/
theorem bodyTruncation : Obligations.BodyTruncation := by
  refine ⟨fun s _ i _ => exec_eq_execIn i s, fun c s f i hi => ?bodies, fun c s f => ⟨?cjField, ?cjName⟩⟩
  case bodies =>
    obtain ⟨g, hrow⟩ := rowIn_eq_bodyHead_bind c f i hi
    have hhead : ∀ {k u o t}, bodyHead c f.toNat s = .error ⟨k, u, o⟩ t → execIn c i s = .next (raised t k u o) :=
      fun h => by rw [execIn_eq, hrow, settle_bind_error h]
    refine ⟨fun o h0 => hhead (bodyHead_of_ld0_cut h0), fun h0 o h1 => hhead (bodyHead_of_ld1_cut h0 h1),
      fun h0 h1 h => hhead (bodyHead_of_atm0_cut h0 h1 h), fun h52 h55 hi => ?_, ?_, ?_⟩
    · rcases hi with rfl | rfl
      all_goals exact congrArg Host.Outcome.next (settle_head_of_numTlvs_cut h52 h55)
    · rintro h55 h76 rfl
      exact congrArg Host.Outcome.next (settle_arpBody_of_atm1_cut h55 h76)
    · rintro h52 h76 rfl
      exact congrArg Host.Outcome.next (settle_flushBody_of_atm1_cut h52 h76)
  case cjField =>
    exact fun _ _ _ hxs hx hcut => congrArg Host.Outcome.next (settle_cjBody_of_cut hxs hx hcut)
  case cjName =>
    exact fun hmax h76 hcut => congrArg Host.Outcome.next (settle_cjBody_of_name_cut hmax h76 hcut)

end Sys2Proof.Proofs
end

section
/-! PROOFS. Encoding: decode and encode agree on every row, what the decoder answers, and the rows that the latch, an
opcode, a body kind and a TLV run select (30_encoding R81 to R84, R97, R98). -/

namespace Sys2Proof.Proofs

open Sys2Proof Sys2Proof.Machine Sys2Proof.Safety Sys2Proof.Laws

/-! What the selecting bits name. -/

section Select

variable {c : Config}

/-- An opcode has no class just when LEC_UNKNOWN covers it (43 R192, R193). -/
theorem opcodeIndex_eq_none_iff (c : Config) (op : Half) : opcodeIndex c op = none ↔ unknownOpcodeOk c op = true := by
  simp only [opcodeIndex, List.findIdx?_eq_none_iff, beq_eq_false_iff_ne, unknownOpcodeOk, Bool.not_eq_true',
    List.contains_eq_mem, decide_eq_false_iff_not]
  exact ⟨fun h hmem => h op hmem rfl, fun h x hx he => h (he ▸ hx)⟩

theorem selectOpcode_unknown {op : Half} (h : unknownOpcodeOk c op = true) (f : Word) :
    selectOpcode c op f = .lecUnknown op f := by
  rw [selectOpcode, (opcodeIndex_eq_none_iff c op).mpr h]

/-- Each value of R97 selects its own row. -/
theorem selectOpcode_known : ∀ e ∈ opcodeRows, ∀ f, selectOpcode Config.aldb e.2.1 f = e.1 f := by
  simp only [opcodeRows, List.cons_append, List.nil_append, List.forall_mem_cons]
  refine ⟨?_, ?_, ?_, ?_, ?_, ?_, ?_, ?_, ?_, ?_, ?_, ?_, ?_, ?_, ?_, ?_, ?_, ?_, nofun⟩
  all_goals exact fun _ => rfl

theorem unknownOpcodeOk_of_ne {op : Half} (h : ∀ e ∈ opcodeRows, op ≠ e.2.1) :
    unknownOpcodeOk Config.aldb op = true := by
  have hlist : Config.aldb.leOpcodes = opcodeRows.map fun e => e.2.1 := rfl
  simp only [unknownOpcodeOk, Bool.not_eq_true', List.contains_eq_mem, decide_eq_false_iff_not, hlist, List.mem_map]
  rintro ⟨e, he, rfl⟩
  exact h e he rfl

/-- A TRAF_TYPE with no row of its own selects PDU_RAW (40 R129). -/
theorem selectPdu_raw {tt : BitVec 8} (h : rawTypeOk Config.aldb tt = true) (po pl : Word) :
    selectPdu Config.aldb 4 tt po pl = some (.pduRaw tt po pl) := by
  simp only [rawTypeOk, Bool.and_eq_true, bne_iff_ne] at h
  obtain ⟨⟨hllc, hlane⟩, hilmi⟩ := h
  have haal : (4 : BitVec 8) ≠ Config.aldb.codes.signalling := by decide
  simp only [selectPdu, if_neg haal, if_neg hllc, if_neg hlane, if_neg hilmi]
  rfl

/-- A TRAF_SUBTYPE with no row of its own selects LANE_RAW (40 R133). -/
theorem selectLane_raw {st : BitVec 8} (h : rawSubtypeOk Config.aldb st = true) (po pl : Word) :
    selectLane Config.aldb 4 3 st po pl = some (.laneRaw st po pl) := by
  simp only [rawSubtypeOk, Bool.and_eq_true, bne_iff_ne] at h
  obtain ⟨⟨⟨⟨hlec, h8023⟩, h8025⟩, h8023Mc⟩, h8025Mc⟩ := h
  simp only [selectLane, if_neg hlec, if_neg h8023, if_neg h8025, if_neg h8023Mc, if_neg h8025Mc]
  rfl

/-! The format of a row selected. -/

theorem format_selectPdu {aal tt : BitVec 8} {po pl : Word} {i : Instr} (h : selectPdu c aal tt po pl = some i) :
    i.format = .pduDispatch := by
  unfold selectPdu at h
  split_ifs at h <;> cases h <;> rfl

theorem format_selectLane {aal tt st : BitVec 8} {po pl : Word} {i : Instr}
    (h : selectLane c aal tt st po pl = some i) : i.format = .laneSubtype := by
  unfold selectLane at h
  split_ifs at h <;> cases h <;> rfl

theorem format_selectOpcode (c : Config) (op : Half) (f : Word) : (selectOpcode c op f).format = .lecOpcode := by
  unfold selectOpcode
  split <;> rfl

theorem format_selectBody {code : BitVec 8} {f : Word} {i : Instr} (h : selectBody code f = some i) :
    i.format = .lecBody := by
  unfold selectBody at h
  split_ifs at h <;> cases h <;> rfl

end Select

/-! The decoder's answer. -/

theorem decodeIn_opcodeBytes (c : Config) (op : Half) (f : Word) :
    decodeIn c .lecOpcode (opcodeBytes op f) = checked c (selectOpcode c op f) := by
  have hop : op.extractLsb' 8 8 ++ op.extractLsb' 0 8 = op :=
    (BitVec.extractLsb'_append_extractLsb'_eq_extractLsb' rfl).trans BitVec.extractLsb'_eq_self
  have hwords : decodeIn c .lecOpcode (opcodeBytes op f) =
      checked c (selectOpcode c (op.extractLsb' 8 8 ++ op.extractLsb' 0 8) f) := by
    simp [decodeIn, opcodeBytes, wordBytes, leBytes]
  rw [hwords, hop]

theorem decodeIn_lanDestBytes (c : Config) (d : Word) (slot : BitVec 8) :
    decodeIn c .lanDest (wordBytes d ++ [slot]) = checked c (.ldDecode d slot) := by
  simp [decodeIn, wordBytes, leBytes]

/-- The bits that the encoder writes for a row select that row, whose operands are then checked. -/
theorem decodeIn_encode {i : Instr} (h : i.wf = true) :
    decodeIn Config.aldb i.format (encode i) = checked Config.aldb i := by
  unfold Instr.wf at h
  cases i with
  | jobCell | jobPduTrunc | jobPduTail | jobPduCut => exact decodeIn_jobBytes _ _ _ _ _
  | pduSscop | pduLlc | pduLane | pduIlmi => exact decodeIn_pduBytes _ rfl
  | pduRaw tt po pl =>
    simp only [Instr.wfIn, Bool.and_eq_true] at h
    exact decodeIn_pduBytes _ (selectPdu_raw h.1 po pl)
  | laneLeControl | lane8023 | lane8025 | lane8023Mc | lane8025Mc => exact decodeIn_laneBytes rfl
  | laneRaw st po pl =>
    simp only [Instr.wfIn, Bool.and_eq_true] at h
    exact decodeIn_laneBytes (selectLane_raw h.1 po pl)
  | lecUnknown op f =>
    simp only [Instr.wfIn, Bool.and_eq_true] at h
    exact (decodeIn_opcodeBytes _ _ _).trans (congrArg _ (selectOpcode_unknown h.1 f))
  | hdrUnpack => rfl
  | ldDecode => exact decodeIn_lanDestBytes _ _ _
  | tlvWalk => exact decodeIn_tlvBytes _ _ _
  | cjBody | regBody | arpBody | verifyBody | flushBody => exact decodeIn_bodyBytes rfl
  | _ => exact decodeIn_opcodeBytes _ _ _

/-- Settles O1: the encoder's bits select the row, and its operands pass the check. -/
theorem decodeEncodeRoundTrip : Obligations.DecodeEncodeRoundTrip := fun _ hwf =>
  (decodeIn_encode hwf).trans (if_pos hwf)

theorem checked_eq_ok {c : Config} {i j : Instr} (h : checked c j = .ok i) : j = i ∧ i.wfIn c = true := by
  unfold checked at h
  split_ifs at h with hwf
  cases h
  exact ⟨rfl, hwf⟩

/-- What the decoder answers is well formed and of the format asked for, in a block of any parameters. -/
theorem decodeIn_eq_ok {c : Config} {fmt : Format} {bs : List Byte} {i : Instr} (h : decodeIn c fmt bs = .ok i) :
    i.wfIn c = true ∧ i.format = fmt := by
  have of_checked : ∀ {j : Instr}, checked c j = .ok i → j.format = fmt → i.wfIn c = true ∧ i.format = fmt := by
    intro j hj hfmt
    obtain ⟨rfl, hwf⟩ := checked_eq_ok hj
    exact ⟨hwf, hfmt⟩
  unfold decodeIn at h
  split at h
  · exact of_checked h (format_selectJob _ _ _ _ _)
  · split at h
    · exact of_checked h (format_selectPdu ‹_›)
    · cases h
  · split at h
    · exact of_checked h (format_selectLane ‹_›)
    · cases h
  · exact of_checked h (format_selectOpcode _ _ _)
  · exact of_checked h rfl
  · exact of_checked h rfl
  · exact of_checked h rfl
  · split at h
    · exact of_checked h (format_selectBody ‹_›)
    · cases h
  · cases h

/-- Settles O2: every answer is a checked row of the format's own selection. -/
theorem decodedIsWellFormed : Obligations.DecodedIsWellFormed := fun _ _ _ h => decodeIn_eq_ok h

/-! The rows the engine's units select. -/

/-- Settles O3: the latch's AAL, truncation flag and lengths are what the job's bits decode to. -/
theorem jobKindSelection : Obligations.JobKindSelection := fun _ hu => fetchIn_job hu

/-- The two opcode bytes of a frame are the big-endian integer there (20_memory R63). -/
theorem byteAt_append (s : State) (o : Nat) : byteAt s o ++ byteAt s (o + 1) = BitVec.ofNat 16 (be s o 2) := by
  apply BitVec.eq_of_toNat_eq
  have hlt : be s o 2 < 2 ^ (8 + 8) := beNat_bytes_lt s.buf o 2
  rw [toNat_append_eq_add, BitVec.toNat_ofNat, Nat.mod_eq_of_lt hlt, be, beNat_bytes_two, byteAt, byteAt]
  omega

/-- Settles O5: the opcode inside the limit is matched against R97's values. -/
theorem opcodeSelection : Obligations.OpcodeSelection := by
  intro s f hu hlim hcap
  have hrow : fetch s = .row (selectOpcode Config.aldb (BitVec.ofNat 16 (be s (f.toNat + 4) 2)) f) := by
    rw [← byteAt_append]
    exact fetchIn_lec hu hlim (selectOpcode_wf hcap)
  refine ⟨fun e he hop => ?known, fun hop => ?unknown⟩
  case known => rw [hrow, (ofNat_be_two_eq_iff s _ _).mpr hop, selectOpcode_known e he]
  case unknown =>
    have hne : ∀ e ∈ opcodeRows, BitVec.ofNat 16 (be s (f.toNat + 4) 2) ≠ e.2.1 := fun e he heq =>
      hop e he ((ofNat_be_two_eq_iff s _ _).mp heq)
    rw [hrow, selectOpcode_unknown (unknownOpcodeOk_of_ne hne)]

/-- Settles O6: a body kind's code selects its row or, with none, nothing to decode; a TLV run selects its walk. -/
theorem bodyAndTlvSelection : Obligations.BodyAndTlvSelection := by
  refine ⟨fun s f hu hcap => ?body, fun s o n hu hcap => fetchIn_tlv hu (decide_eq_true hcap)⟩
  case body =>
    have hoff : offsetOk Config.aldb f = true := decide_eq_true hcap
    cases hb : s.r.body with
    | none | topology =>
      rw [fetch, fetchIn, hu]
      exact (fetchBody_eq _ _ _).trans (if_pos (by simp [hb]))
    | _ => exact fetchIn_body hu (by simp [hb]) (by simp [hb]) (by rw [hb]; rfl) hoff

/-- Settles O7: each word's format is told by `tableFormat`, and its bits select the row with zero operands. -/
theorem tableWordsDecode : Obligations.TableWordsDecode := by
  unfold Obligations.TableWordsDecode
  decide

end Sys2Proof.Proofs
end

section
/-! PROOFS. Headers: an LE Control header that fits, and what it leaves for the opcodes with a body (43_le_control R170,
R173, R176 to R191). -/

namespace Sys2Proof.Proofs

open Sys2Proof Sys2Proof.Machine Sys2Proof.Safety Sys2Proof.Laws

/-! The flag meanings (43 R173). -/

section Flags

variable {c : Config} {op : Half}

/-- V2_CAPABLE for a configure or join opcode. -/
theorem flagBits_of_configureJoin (hk : bodyKind c op = .configureJoin) (s : State) :
    flagBits c op s = wrote s 0x8000 fun r => { r with v2Capable := s.r.flags.extractLsb' 1 1 } := by
  have hcls : ¬ (opclass c op = 10 ∨ opclass c op = 11) := by
    rintro (h | h) <;> simp [bodyKind, bodyOfClass, h] at hk
  rw [flagBits, flagRemote, if_neg hcls, flagV2, if_pos hk]
  rfl

/-- REMOTE for ARP_REQUEST and ARP_RESPONSE. -/
theorem flagBits_of_arp (hcls : opclass c op = 10 ∨ opclass c op = 11) (s : State) :
    flagBits c op s = wrote s 0x4000 fun r => { r with remote := s.r.flags.extractLsb' 0 1 } := by
  have hk : bodyKind c op ≠ .configureJoin := by
    rcases hcls with h | h <;> simp [bodyKind, bodyOfClass, h]
  rw [flagBits, flagRemote, if_pos hcls, flagV2, if_neg hk]
  rfl

/-- Every other opcode's flags have no meaning. -/
theorem flagBits_of_plain (hk : bodyKind c op ≠ .configureJoin) (hcls : ¬ (opclass c op = 10 ∨ opclass c op = 11))
    (s : State) : flagBits c op s = s := by
  rw [flagBits, flagRemote, if_neg hcls, flagV2, if_neg hk]

/-- The flag meanings leave the cursor where it is. -/
theorem setCur_flagBits {s : State} {o : Nat} (h : s.cur = o) : { flagBits c op s with cur := o } = flagBits c op s := by
  obtain ⟨r, v, hflags⟩ := flagBits_eq c op s
  rw [hflags, ← h]

end Flags

/-! A header that fits. -/

section Fits

variable {c : Config} {op : Half} {f : Word} {s : State}

/-- What S_MARKER to S_FLAGS report for the opcode `op` (43 R170). -/
def headerKept (c : Config) (op : Half) (f : Nat) (s : State) : State :=
  consume s f (headerFields s f op (opclass c op))

theorem headerKept_cur : (headerKept c op f.toNat s).cur = f.toNat + 16 := rfl

theorem headerKept_flags : (headerKept c op f.toNat s).r.flags = BitVec.ofNat 16 (be s (f.toNat + 14) 2) := rfl

/-- Bit `k` of FLAGS is a bit of the field's integer. -/
theorem headerKept_flags_bit (k : Nat) :
    (headerKept c op f.toNat s).r.flags.extractLsb' k 1 = BitVec.ofNat 1 (be s (f.toNat + 14) 2 / 2 ^ k) := by
  have hlt : be s (f.toNat + 14) 2 < 2 ^ 16 := beNat_bytes_lt s.buf (f.toNat + 14) 2
  rw [headerKept_flags, extractLsb'_eq_ofNat, BitVec.toNat_ofNat, Nat.mod_eq_of_lt hlt]

theorem le_of_mem_headerFields {f cls : Nat} {x : Field} (h : x ∈ headerFields s f op cls) : x.1 + x.2.1 ≤ 16 := by
  have hall : ∀ y ∈ headerFields s f op cls, y.1 + y.2.1 ≤ 16 := by simp [headerFields]
  exact hall x h

/-- A header that fits is reported whole, with its flags' meaning, before the body kind is chosen. -/
theorem leControl_of_fits (hready : isReady c op = false) (h : f.toNat + 16 ≤ s.lim) :
    leControl c f op s = leBody c f op (flagBits c op (headerKept c op f.toNat s)) := by
  have hfits : ∀ y ∈ headerFields s f.toNat op (opclass c op), f.toNat + y.1 + y.2.1 ≤ s.lim := fun y hy => by
    have := le_of_mem_headerFields hy
    omega
  rw [leControl_eq_readInOrder c op s f hready, dec_bind_ok (readInOrder_of_fits hfits),
    dec_bind_ok (put'_apply _ _), dec_bind_ok (setCur_apply _ _)]
  exact congrArg _ (setCur_flagBits headerKept_cur)

/-- A row whose opcode has a body reports its header and enters the body. -/
theorem exec_of_body {i : Instr} (hrow : rowIn Config.aldb i = leControl Config.aldb f op)
    (hready : isReady Config.aldb op = false) (henter : leEnter (bodyKind Config.aldb op) f = enter (.body f))
    (h : f.toNat + 16 ≤ s.lim) :
    exec i s = .next { bodyChosen (flagBits Config.aldb op (headerKept Config.aldb op f.toNat s))
      (bodyKind Config.aldb op) with unit := .body f } := by
  rw [exec_eq, hrow, leControl_of_fits hready h, leBody, henter]
  rfl

end Fits

/-- Settles O20: the four opcodes have the configure/join body, whose flags' bit 1 is V2_CAPABLE. -/
theorem configureJoinHeaderResult : Obligations.ConfigureJoinHeaderResult := by
  intro s f h
  have hrow : ∀ {i : Instr} {op : Half}, rowIn Config.aldb i = leControl Config.aldb f op →
      isReady Config.aldb op = false → bodyKind Config.aldb op = .configureJoin →
      exec i s = .next
        { bodyChosen
            (wrote (headerKept Config.aldb op f.toNat s) 0x8000
              fun r => { r with v2Capable := BitVec.ofNat 1 (be s (f.toNat + 14) 2 / 2) })
            .configureJoin with unit := .body f } := by
    intro i op hi hready hk
    rw [exec_of_body hi hready (by rw [hk]; rfl) h, hk, flagBits_of_configureJoin hk, headerKept_flags_bit 1, pow_one]
  simp only [List.forall_mem_cons]
  exact ⟨hrow rfl rfl rfl, hrow rfl rfl rfl, hrow rfl rfl rfl, hrow rfl rfl rfl, nofun⟩

/-- Settles O21: of the three opcodes with the ARP body, all but NARP's have bit 0 of their flags as REMOTE. -/
theorem arpHeaderResult : Obligations.ArpHeaderResult := by
  intro s f h
  have hrow : ∀ {i : Instr} {op : Half}, rowIn Config.aldb i = leControl Config.aldb f op →
      isReady Config.aldb op = false → bodyKind Config.aldb op = .arp →
      opclass Config.aldb op = 10 ∨ opclass Config.aldb op = 11 →
      exec i s = .next
        { bodyChosen
            (wrote (headerKept Config.aldb op f.toNat s) 0x4000
              fun r => { r with remote := BitVec.ofNat 1 (be s (f.toNat + 14) 2) })
            .arp with unit := .body f } := by
    intro i op hi hready hk hcls
    rw [exec_of_body hi hready (by rw [hk]; rfl) h, hk, flagBits_of_arp hcls, headerKept_flags_bit 0, pow_zero,
      Nat.div_one]
  refine ⟨?arp, ?narp⟩
  case arp =>
    simp only [List.forall_mem_cons]
    exact ⟨hrow rfl rfl rfl (.inl rfl), hrow rfl rfl rfl (.inr rfl), nofun⟩
  case narp =>
    rw [exec_of_body (op := 0x0008) rfl rfl rfl h, flagBits_of_plain (by decide) (by decide)]
    rfl

/-- Settles O22: the eight opcodes have a body and no flag meaning. -/
theorem plainBodyHeaderResult : Obligations.PlainBodyHeaderResult := by
  intro s f h
  have hrow : ∀ {i : Instr} {op : Half}, rowIn Config.aldb i = leControl Config.aldb f op →
      isReady Config.aldb op = false → leEnter (bodyKind Config.aldb op) f = enter (.body f) →
      bodyKind Config.aldb op ≠ .configureJoin → ¬ (opclass Config.aldb op = 10 ∨ opclass Config.aldb op = 11) →
      exec i s = .next
        { bodyChosen (headerKept Config.aldb op f.toNat s) (bodyKind Config.aldb op) with unit := .body f } := by
    intro i op hi hready henter hk hcls
    rw [exec_of_body hi hready henter h, flagBits_of_plain hk hcls]
  simp only [List.forall_mem_cons]
  refine ⟨?_, ?_, ?_, ?_, ?_, ?_, ?_, ?_, nofun⟩
  all_goals exact hrow rfl rfl rfl (by decide) (by decide)

end Sys2Proof.Proofs
end

section
/-! PROOFS. BodyResults: the LE Control bodies inside the read limit, and Verify's whatever its limit (44_le_bodies R211
to R219). -/

namespace Sys2Proof.Proofs

open Sys2Proof Sys2Proof.Machine Sys2Proof.Safety Sys2Proof.Laws

/-! Fields that fit, and the call of the walk. -/

section Fits

variable {s : State} {o : Nat}

theorem readNumTlvs_of_le (h : o + 1 ≤ s.lim) :
    readNumTlvs o s = .ok (byteAt s o).toNat
      { wrote s 0x800000 (fun r => { r with numTlvs := byteAt s o }) with cur := o + 1 } :=
  (readNumTlvs_eq o s).trans (if_pos h)

theorem readNumTlvs_of_lt (h : s.lim < o + 1) : readNumTlvs o s = .error ⟨.truncatedBuffer, .leBody, o⟩ s :=
  (readNumTlvs_eq o s).trans (if_neg (Nat.not_le.mpr h))

theorem readAtm1_of_le (h : o + 20 ≤ s.lim) :
    readAtm1 o s = .ok ()
      { wrote s 0x100000 (fun r => { r with atm1 := BitVec.ofNat 160 (be s o 20) }) with cur := o + 20 } :=
  (readAtm1_eq o s).trans (if_pos h)

theorem readAtm1_of_lt (h : s.lim < o + 20) : readAtm1 o s = .error ⟨.truncatedBuffer, .leBody, o⟩ s :=
  (readAtm1_eq o s).trans (if_neg (Nat.not_le.mpr h))

/-- The count that a body hands to the walk is the byte it read. -/
theorem enterTlvs_byte (f : Nat) (b : Byte) (s : State) :
    enterTlvs f b.toNat s = .ok () { s with unit := .tlv (BitVec.ofNat 32 (f + 108)) b } := by
  rw [enterTlvs, BitVec.ofNat_toNat, BitVec.setWidth_eq, enter_apply]

/-- Two writes, the cursor moved between them, are one write. -/
theorem wrote_wrote (s : State) (b b' : BitVec 32) (g g' : Record → Record) (cur : Nat) :
    wrote { wrote s b g with cur := cur } b' g' = { wrote s (b ||| b') (g' ∘ g) with cur := cur } := by
  simp only [wrote, BitVec.or_assoc, Function.comp_apply]

end Fits

/-! ARP's and Verify's shared end: the TLV count, one reserved byte, ATM1, 32 reserved bytes (44 R215, R217). -/

/-- The fields from the TLV count on, in the bodies of ARP and of Verify. -/
def countThenAtm1 (f : Nat) : Dec Unit := do
  let n ← readNumTlvs (f + 54)
  skip 1
  readAtm1 (f + 56)
  skip 32
  enterTlvs f n

theorem arpBody_eq (c : Config) (f : Nat) :
    arpBody c f = bodyHead c f >>= fun _ => skip 2 >>= fun _ => countThenAtm1 f := rfl

theorem verifyBody_eq (f : Nat) : verifyBody f = skip 38 >>= fun _ => countThenAtm1 f := rfl

section Bodies

variable {c : Config} {s : State} {f : Nat}

/-- What the TLV count and ATM1 leave, the walk about to begin. -/
def countAndAtm1Kept (s : State) (f : Nat) : State :=
  { wrote s 0x900000 (fun r => { r with
      numTlvs := byteAt s (f + 54), atm1 := BitVec.ofNat 160 (be s (f + 56) 20) })
    with
      cur := f + 108
      unit := .tlv (BitVec.ofNat 32 (f + 108)) (byteAt s (f + 54)) }

theorem countThenAtm1_of_le (h : f + 76 ≤ s.lim) : countThenAtm1 f s = .ok () (countAndAtm1Kept s f) := by
  rw [countThenAtm1, dec_bind_ok (readNumTlvs_of_le (by omega)), dec_bind_ok (skip_apply _ _),
    dec_bind_ok (readAtm1_of_le (by exact h)), dec_bind_ok (skip_apply _ _), enterTlvs_byte]
  exact congrArg (fun v => EStateM.Result.ok () { countAndAtm1Kept s f with valid := v }) (BitVec.or_assoc _ _ _)

theorem settle_countThenAtm1_of_count_cut (h : s.lim < f + 55) :
    settle (countThenAtm1 f s) = raised s .truncatedBuffer .leBody (f + 54) :=
  settle_bind_error (readNumTlvs_of_lt h)

theorem settle_countThenAtm1_of_atm1_cut (h55 : f + 55 ≤ s.lim) (h76 : s.lim < f + 76) :
    settle (countThenAtm1 f s) =
      raised { wrote s 0x800000 (fun r => { r with numTlvs := byteAt s (f + 54) }) with cur := f + 56 }
        .truncatedBuffer .leBody (f + 56) := by
  rw [countThenAtm1, dec_bind_ok (readNumTlvs_of_le h55), dec_bind_ok (skip_apply _ _)]
  exact settle_bind_error (readAtm1_of_lt h76)

/-! ConfigureJoin's name, and its body (44 R211, R212). -/

/-- A name's bytes, packed from the most significant end of the slot (10_state R43). -/
theorem packName_bytes (s : State) (o k : Nat) : packName (Memory.bytes s.buf o k) = nameAt s o k := by
  rw [packName, bytes_length, nameAt, be]

@[simp] theorem consume_buf (s : State) (f : Nat) (xs : Fields) : (consume s f xs).buf = s.buf := by
  induction xs generalizing s with
  | nil => rfl
  | cons y ys ih => exact ih _

/-- The name of a slot of at most 32 bytes, inside the limit: none for length 0 (44 R212). -/
theorem readName_of_le {o k : Nat} (hk : s.r.nameLen.toNat = k) (h : o + k ≤ s.lim) :
    readName o s = .ok () { s with r := { s.r with name := if k = 0 then s.r.name else nameAt s o k } } := by
  rw [readName_eq, hk, packName_bytes]
  by_cases h0 : k = 0
  · rw [if_pos h0, if_pos h0]
  · rw [if_neg h0, if_pos h, if_neg h0]

theorem elanName_of_le {o k : Nat} (hk : s.r.nameLen.toNat = k) (h : o + k ≤ s.lim) :
    elanName c o s = .ok ()
      { wrote s 0x2000000 (fun r => { r with name := if k = 0 then r.name else nameAt s o k })
        with cur := o + c.elanNameMax } := (dec_bind_ok (readName_of_le hk h)).trans rfl

/-- The fields before the name, as CJ_BODY keeps them. -/
def cjKept (c : Config) (s : State) (f : Nat) : State := consume (headAt c s f) f (cjFields c s f)

theorem cjKept_nameLen (hmax : c.elanNameMax ≤ 32) : (cjKept c s f).r.nameLen.toNat = cjNameLen c s f := by
  have hle : cjNameLen c s f ≤ 32 := (Nat.min_le_right _ _).trans hmax
  rw [cjKept, consume_cjFields_nameLen, BitVec.toNat_ofNat, Nat.mod_eq_of_lt (by omega)]

theorem cjKept_buf : (cjKept c s f).buf = s.buf := consume_buf _ _ _

theorem nameAt_cjKept (o k : Nat) : nameAt (cjKept c s f) o k = nameAt s o k := by
  rw [nameAt, be, cjKept_buf, nameAt, be]

/-- CJ_BODY with its name inside the limit, in either layout (30 R90, R91). -/
theorem settle_cjBody_of_le (hmax : c.elanNameMax ≤ 32) (h : f + 76 + cjNameLen c s f ≤ s.lim) :
    settle (cjBody c f s) =
      { wrote (cjKept c s f) 0x2000000 (fun r => { r with
          name := if cjNameLen c s f = 0 then r.name else nameAt s (f + 76) (cjNameLen c s f) })
        with
          cur := f + 108
          unit := .tlv (BitVec.ofNat 32 (f + 108)) (byteAt s (f + cjScalarsAt c + 2)) } := by
  have hfits : ∀ y ∈ cjFields c s f, f + y.1 + y.2.1 ≤ s.lim := fun y hy => by
    obtain ⟨-, hend⟩ := le_of_mem_cjFields hy
    omega
  have hlim : (cjKept c s f).lim = s.lim := consume_lim _ _ _
  have hname := elanName_of_le (c := c) (s := cjKept c s f) (o := f + 76) (cjKept_nameLen hmax) (hlim.symm ▸ h)
  rw [cjBody_eq_readInOrder (by omega), dec_bind_ok (readInOrder_of_fits (s := headAt c s f) hfits), cjRest,
    ← cjKept, dec_bind_ok hname, dec_bind_ok (setCur_apply _ _), enterTlvs_byte, nameAt_cjKept]
  rfl

end Bodies

/-- In this spec's block, the fields before the name as one write (30 R90). -/
theorem cjKept_aldb (s : State) (f : Nat) :
    cjKept Config.aldb s f =
      { wrote (headAt Config.aldb s f) 0x1F00000 (fun r => { r with
          atm1 := BitVec.ofNat 160 (be s (f + 52) 20), lanType := byteAt s (f + 72)
          maxFrame := byteAt s (f + 73), numTlvs := byteAt s (f + 74), nameSize := byteAt s (f + 75)
          nameLen := BitVec.ofNat 6 (min (byteAt s (f + 75)).toNat 32) })
        with cur := f + 76 } := by
  simp only [cjKept, cjFields, consume, aldb_cjLayout, if_true, cjScalarFields, List.foldl_cons, List.foldl_nil,
    wrote_wrote]
  rfl

/-- Settles O26: the fields of either layout are read in their order, then the name; this spec's is the DOC layout. -/
theorem cjBodyResult : Obligations.CjBodyResult := by
  refine ⟨fun s f h => ?doc, fun c s f hmax h => congrArg Host.Outcome.next (settle_cjBody_of_le hmax h)⟩
  case doc =>
    have hlen : cjNameLen Config.aldb s f.toNat = min (byteAt s (f.toNat + 75)).toNat 32 := rfl
    have hempty : min (byteAt s (f.toNat + 75)).toNat 32 = 0 ↔ byteAt s (f.toNat + 75) = 0 := by
      rw [← BitVec.toNat_inj]
      show _ ↔ _ = 0
      omega
    rw [exec_eq, rowIn, settle_cjBody_of_le (Nat.le_refl 32) (hlen ▸ h)]
    simp only [hlen, hempty, cjKept_aldb, wrote_wrote]
    rfl

/-- Settles O27: behind the head, the TLV count is the body's one field. -/
theorem regBodyResult : Obligations.RegBodyResult := by
  intro s f h
  rw [exec_eq, rowIn, regBody, dec_bind_ok (bodyHead_of_le (by omega)), dec_bind_ok (skip_apply _ _),
    dec_bind_ok (readNumTlvs_of_le (by exact h)), dec_bind_ok (skip_apply _ _), enterTlvs_byte]
  rfl

/-- Settles O28: behind the head, the TLV count and ATM1. -/
theorem arpBodyResult : Obligations.ArpBodyResult := by
  intro s f h
  rw [exec_eq, rowIn, arpBody_eq, dec_bind_ok (bodyHead_of_le (by omega)), dec_bind_ok (skip_apply _ _),
    countThenAtm1_of_le (by exact h)]
  rfl

/-- Settles O29: behind the head, ATM1; then the job ends. -/
theorem flushBodyResult : Obligations.FlushBodyResult := by
  intro s f h
  rw [exec_eq, rowIn, flushBody, dec_bind_ok (bodyHead_of_le (by omega)), dec_bind_ok (skip_apply _ _),
    dec_bind_ok (readAtm1_of_le (by exact h)), dec_bind_ok (skip_apply _ _)]
  rfl

/-- Settles O30: the body passes 38 bytes unchecked, then its two fields are whole or cut. -/
theorem verifyBodyResult : Obligations.VerifyBodyResult := by
  intro s f hcur
  have hskip : skip 38 s = .ok () { s with cur := f.toNat + 54 } := by rw [skip_apply, hcur]
  rw [exec_eq, rowIn, verifyBody_eq, dec_bind_ok hskip]
  split_ifs with h55 h76
  · exact congrArg _ (settle_countThenAtm1_of_count_cut h55)
  · exact congrArg _ (settle_countThenAtm1_of_atm1_cut (Nat.not_lt.mp h55) h76)
  · rw [countThenAtm1_of_le (by exact Nat.not_lt.mp h76)]
    rfl

end Sys2Proof.Proofs
end

section
/-! PROOFS. HostCommands: the host's commands WAIT and EXPECT as steps (30_encoding R108). -/

namespace Sys2Proof.Proofs

open Sys2Proof Sys2Proof.Machine Sys2Proof.Safety Sys2Proof.Laws

/-- An EXPECT inside the register space is its comparison, and nothing else of the step (log entries 2, 12). -/
theorem step_expect {s : State} {rest : List PortOp} {a : Nat} {v : Word} (hp : s.port = .expect a v :: rest)
    (h4 : a % 4 = 0) (ha : a < 0xE00) : step s = hostExpect Config.aldb a v { s with port := rest } :=
  (stepOf_access _ _ hp nofun nofun).trans (regAccess_word h4 ha _)

/-- While IDLE a register gives its value, and the read changes nothing. -/
theorem regRead_idle {c : Config} {s : State} {a : Nat} {x : Reg} (hx : regAt c a = some x) (hi : s.phase = .idle) :
    regRead c s a = (regWord c s x, s) := by
  have hopen : ¬ (s.phase = .busy ∧ x.openWhileBusy = true) := fun h => Phase.noConfusion (hi.symm.trans h.1)
  simp only [regRead, hx, if_neg hopen]

/-- An EXPECT compares what an RD of its address gives, and leaves what the RD leaves but the last read value. -/
theorem hostExpect_eq_hostRd (c : Config) (a : Nat) (v : Word) (s : State) :
    hostExpect c a v s =
      if (hostRd c a s).rdata = v then .next { hostRd c a s with rdata := s.rdata }
      else .fault (.expectationFailed a (hostRd c a s).rdata) := by
  obtain ⟨n, hn⟩ := regRead_state c s a
  simp only [hostExpect, hostRd, hn]

/-- Settles O45: a WAIT is a turn of the engine until DONE = 1; an EXPECT is the read of an RD, compared. -/
theorem waitAndExpect : Obligations.WaitAndExpect := by
  refine fun s rest => ⟨fun hp hd => ?done, fun hp hd hi => ?polling, fun v hi hp => ?valid, fun a v h4 ha hp => ?read⟩
  case done => exact (stepOf_wait _ _ hp).trans (if_pos hd)
  case polling =>
    have hturn : step s = engineTurn Config.aldb exec s := by simp [step, stepOf_wait _ _ hp, hd]
    exact hturn.trans (engineTurn_idle _ _ hi)
  case valid =>
    have hx : regAt Config.aldb 0x040 = some .valid := regAt_of_mem _ (by decide)
    rw [step_expect hp rfl (by decide), hostExpect, regRead_idle (s := { s with port := rest }) hx hi]
    rfl
  case read =>
    have hrd : step { s with port := .rd a 4 :: rest } = .next (hostRd Config.aldb a { s with port := rest }) :=
      (step_eq_stepIn _).trans (stepIn_rd rfl h4 ha)
    exact ⟨_, hrd, (step_expect hp h4 ha).trans (hostExpect_eq_hostRd _ _ _ _)⟩

end Sys2Proof.Proofs
end

section
/-! PROOFS. Cells: the cell header's fields as numbers of the buffer's bytes (41_cell_header R140 to R144), and the cell
path (40_job_dispatch R120 to R123). -/

namespace Sys2Proof.Proofs

open Sys2Proof Sys2Proof.Machine Sys2Proof.Safety Sys2Proof.Laws

/-! The cell header's fields as numbers (41 R140 to R144). -/

theorem beNat_bytes_five (m : Memory) (o : Nat) :
    beNat (Memory.bytes m o 5) =
      (((((Memory.read m o).toNat * 256 + (Memory.read m (o + 1)).toNat) * 256 + (Memory.read m (o + 2)).toNat) * 256 +
        (Memory.read m (o + 3)).toNat) * 256) + (Memory.read m (o + 4)).toNat := by
  simp [Memory.bytes, beNat]

/-- Byte `k` of the header's 5-byte integer is the buffer's byte `k`. -/
theorem hdrByte_bytes (m : Memory) {k : Nat} (hk : k < 5) :
    hdrByte (beNat (Memory.bytes m 0 5)) k = Memory.read m k := by
  have hlt := fun o => (Memory.read m o).isLt
  have h0 := hlt 0
  have h1 := hlt 1
  have h2 := hlt 2
  have h3 := hlt 3
  have h4 := hlt 4
  apply BitVec.eq_of_toNat_eq
  rw [hdrByte, extractLsb'_eq_ofNat, beNat_bytes_five, BitVec.toNat_ofNat, BitVec.toNat_ofNat]
  match k, hk with
  | 0, _ | 1, _ | 2, _ | 3, _ | 4, _ =>
    simp only [Nat.reduceSub, Nat.reduceMul, Nat.reducePow, Nat.reduceAdd]
    omega

section Nibbles

variable {w : Nat} (n k : Nat) (x : BitVec w)

theorem setWidth_shiftLeft_eq_ofNat : x.setWidth n <<< k = BitVec.ofNat n (x.toNat <<< k) := by
  apply BitVec.eq_of_toNat_eq
  simp [Nat.shiftLeft_eq]

theorem setWidth_ushiftRight_eq_ofNat : (x >>> k).setWidth n = BitVec.ofNat n (x.toNat >>> k) := by
  rw [← BitVec.ofNat_toNat, BitVec.toNat_ushiftRight]

theorem extractLsb'_zero_eq_ofNat_and : x.extractLsb' 0 n = BitVec.ofNat n (x.toNat &&& (2 ^ n - 1)) := by
  apply BitVec.eq_of_toNat_eq
  simp [Nat.and_two_pow_sub_one_eq_mod]

end Nibbles

theorem hdrVpi_eq_ofNat (b0 b1 : Byte) :
    hdrVpi b0 b1 = BitVec.ofNat 12 (((b0.toNat &&& 0xF0) <<< 4) ||| (b1.toNat >>> 4)) := by
  rw [hdrVpi, setWidth_shiftLeft_eq_ofNat, setWidth_ushiftRight_eq_ofNat, BitVec.toNat_and, BitVec.ofNat_or]
  rfl

theorem hdrVci_eq_ofNat (b1 b2 b3 : Byte) :
    hdrVci b1 b2 b3 =
      BitVec.ofNat 16 (((b1.toNat &&& 0x0F) <<< 12) ||| (b2.toNat <<< 4) ||| (b3.toNat >>> 4)) := by
  rw [hdrVci, setWidth_shiftLeft_eq_ofNat, setWidth_shiftLeft_eq_ofNat, setWidth_ushiftRight_eq_ofNat,
    BitVec.toNat_and, BitVec.ofNat_or, BitVec.ofNat_or]
  rfl

theorem hdrGfc_eq_ofNat (c : Config) (b0 : Byte) :
    hdrGfc c b0 =
      if c.gfcNibble = .low then BitVec.ofNat 4 (b0.toNat &&& 0x0F) else BitVec.ofNat 4 (b0.toNat >>> 4) := by
  cases hg : c.gfcNibble with
  | low => simpa [hdrGfc, hg] using extractLsb'_zero_eq_ofNat_and 4 b0
  | high => simp [hdrGfc, hg, BitVec.extractLsb']

theorem hdrPt_eq_ofNat (b3 : Byte) : hdrPt b3 = BitVec.ofNat 3 ((b3.toNat >>> 1) &&& 7) := by
  apply BitVec.eq_of_toNat_eq
  simp [hdrPt, BitVec.extractLsb', Nat.and_two_pow_sub_one_eq_mod (b3.toNat >>> 1) 3]

theorem hdrClp_eq_ofNat (b3 : Byte) : hdrClp b3 = BitVec.ofNat 1 (b3.toNat &&& 1) :=
  extractLsb'_zero_eq_ofNat_and 1 b3

/-- The header unpacked from the one 5-byte read is the formulas of 41 R140 on the buffer's bytes. -/
theorem unpackHeader_bytes (c : Config) (s : State) (r : Record) :
    unpackHeader c (beNat (Memory.bytes s.buf 0 5)) r = headerAt c s r := by
  simp (disch := decide) only [unpackHeader, hdrByte_bytes, hdrVpi_eq_ofNat, hdrVci_eq_ofNat, hdrGfc_eq_ofNat,
    hdrPt_eq_ofNat, hdrClp_eq_ofNat, headerAt, headerOf, byteAt, BitVec.ofNat_toNat, BitVec.setWidth_eq]

/-! What the cell path's parts leave (40 R120, R122). -/

section CellPath

variable {c : Config} {s : State}

theorem jobEnter_of_le (h : s.dl.l.toNat ≤ c.bufCap) : jobEnter c s = .ok () (entered s) :=
  (jobEnter_eq c s).trans (if_neg (Nat.not_lt.mpr h))

theorem decodeCellHeader_of_le (h : 5 ≤ s.lim) :
    decodeCellHeader c s = .ok () { wrote s 0x1 (headerAt c s) with cur := 5 } := by
  rw [decodeCellHeader_eq, if_pos h, unpackHeader_bytes]
  rfl

theorem decodeCellHeader_of_lt (h : s.lim < 5) :
    decodeCellHeader c s = .error ⟨.truncatedBuffer, .cellHeader, 0⟩ s :=
  (decodeCellHeader_eq c s).trans (if_neg (Nat.not_le.mpr h))

/-- The cell path past its header is a dispatch that ends the job. -/
theorem cellPath_of_le (h : 5 ≤ s.lim) :
    cellPath c s = .ok () (ended (dispatched { wrote s 0x1 (headerAt c s) with cur := 5 }
      (cellTarget c s.dl.aal) 5 (s.dl.l.toNat - 5))) := by
  rw [cellPath, dec_bind_ok (decodeCellHeader_of_le h)]
  rfl

theorem cellPath_of_lt (h : s.lim < 5) : cellPath c s = .error ⟨.truncatedBuffer, .cellHeader, 0⟩ s := by
  rw [cellPath, dec_bind_error (decodeCellHeader_of_lt h)]

end CellPath

/-- Settles O9: the limit is L, so the header's one read of 5 bytes fits just when 5 <= L. -/
theorem jobCellResult : Obligations.JobCellResult := by
  have hcell : ∀ s : State, s.dl.l.toNat ≤ 65568 →
      exec .jobCell s = .next (settle (cellPath Config.aldb (entered s))) := fun s hcap => by
    rw [exec_eq, rowIn, jobCell, dec_bind_ok (jobEnter_of_le hcap)]
  refine ⟨fun s hu h4 h6 => ?selected, fun s hcap h5 => ?whole, fun s h5 => ?short⟩
  case selected => exact (jobKindSelection s hu).trans (by rw [if_neg (not_or.mpr ⟨h4, h6⟩)])
  case whole =>
    rw [hcell s hcap, cellPath_of_le (s := entered s) h5]
    rfl
  case short =>
    rw [hcell s (by omega), cellPath_of_lt (s := entered s) h5]
    rfl

end Sys2Proof.Proofs
end

section
/-! PROOFS. Slices: the rows that a payload slice selects, and those that dispatch it whole or split it by its LANE
subtype (40_job_dispatch R125 to R130, R133, R134). -/

namespace Sys2Proof.Proofs

open Sys2Proof Sys2Proof.Machine Sys2Proof.Safety Sys2Proof.Laws

/-! What a slice selects. -/

/-- The AAL5 PDU rows by traffic type (40 R125 to R129). -/
theorem selectPdu_aal5 (tt : BitVec 8) (po pl : Word) :
    selectPdu Config.aldb 4 tt po pl = some (
      if tt = 1 then .pduLlc po pl
      else if tt = 3 then .pduLane po pl
      else if tt = 4 then .pduIlmi po pl
      else .pduRaw tt po pl) := rfl

/-- The LANE rows by subtype (40 R130). -/
theorem selectLane_aal5Lane (st : BitVec 8) (po pl : Word) :
    selectLane Config.aldb 4 3 st po pl = some (
      if st = 1 then .laneLeControl po pl
      else if st = 2 then .lane8023 po pl
      else if st = 3 then .lane8025 po pl
      else if st = 4 then .lane8023Mc po pl
      else if st = 5 then .lane8025Mc po pl
      else .laneRaw st po pl) := rfl

theorem rawTypeOk_iff {tt : BitVec 8} : rawTypeOk Config.aldb tt = true ↔ (tt ≠ 1 ∧ tt ≠ 3) ∧ tt ≠ 4 := by
  simp [rawTypeOk]

theorem rawSubtypeOk_iff {st : BitVec 8} :
    rawSubtypeOk Config.aldb st = true ↔ (((st ≠ 1 ∧ st ≠ 2) ∧ st ≠ 3) ∧ st ≠ 4) ∧ st ≠ 5 := by
  simp [rawSubtypeOk]

/-! What the rows leave. -/

section Rows

variable {s : State} {po pl : Word}

/-- A row that hands a slice on is its dispatch, then the job's end (40 R125). -/
theorem exec_of_handOn {i : Instr} {t : Target} (hrow : rowIn Config.aldb i = handOn t po.toNat pl.toNat) :
    exec i s = .next (ended (dispatched s t po.toNat pl.toNat)) := by
  rw [exec_eq, hrow, handOn, dec_bind_ok (dispatch_apply _ _ _ _), finish_apply]
  rfl

theorem laneSplit_apply :
    laneSplit po pl s =
      .ok () { s with lim := po.toNat + pl.toNat, cur := po.toNat, unit := .lane po pl } := by
  rw [laneSplit, dec_bind_ok (put'_apply _ _), enter_apply]

theorem laneLe_apply :
    laneLe po pl s = .ok () { dispatched s .leControl po.toNat pl.toNat with unit := .lec po } := by
  rw [laneLe, dec_bind_ok (dispatch_apply _ _ _ _), enter_apply]
  rfl

end Rows

/-- Settles O15: the class's row is well formed in a slice that fits, and each row is one dispatch. -/
theorem pduDispatchResult : Obligations.PduDispatchResult := by
  refine ⟨fun s po pl hu hfit => ⟨fun haal => ?sscop, fun haal => ?aal5⟩, fun s tt po pl => ?dispatches⟩
  case sscop => exact fetchIn_pdu hu (by simp [selectPdu, haal]) (decide_eq_true hfit)
  case aal5 =>
    have hslice : sliceOk Config.aldb po pl = true := decide_eq_true hfit
    refine fetchIn_pdu hu (by rw [haal, selectPdu_aal5]) ?_
    split_ifs with hllc hlane hilmi
    case neg => exact Bool.and_eq_true_iff.mpr ⟨rawTypeOk_iff.mpr ⟨⟨hllc, hlane⟩, hilmi⟩, hslice⟩
    all_goals exact hslice
  case dispatches =>
    exact ⟨exec_of_handOn rfl, exec_of_handOn rfl, exec_of_handOn rfl, exec_of_handOn rfl⟩

/-- Settles O16: the limit is set in the row before, and the subtype's row is well formed in a slice that fits. -/
theorem laneSplitResult : Obligations.LaneSplitResult := by
  refine ⟨fun s po pl => ?split, fun s po pl hu hfit haal htt => ?subtype⟩
  case split => rw [exec_eq, rowIn, laneSplit_apply, settle_ok]
  case subtype =>
    have hslice : sliceOk Config.aldb po pl = true := decide_eq_true hfit
    refine fetchIn_lane hu (by rw [haal, htt, selectLane_aal5Lane]) ?_
    split_ifs with hlec h8023 h8025 h8023Mc h8025Mc
    case neg =>
      exact Bool.and_eq_true_iff.mpr
        ⟨rawSubtypeOk_iff.mpr ⟨⟨⟨⟨hlec, h8023⟩, h8025⟩, h8023Mc⟩, h8025Mc⟩, hslice⟩
    all_goals exact hslice

/-- Settles O18: LANE_RAW is one dispatch; LANE_LE_CONTROL is a dispatch and the call of `le_control(PO)`. -/
theorem laneLeControlAndRawResult : Obligations.LaneLeControlAndRawResult := by
  refine fun s st po pl => ⟨exec_of_handOn rfl, ?leControl⟩
  case leControl => rw [exec_eq, rowIn, laneLe_apply, settle_ok]

end Sys2Proof.Proofs
end

section
/-! PROOFS. HeaderUnpack: HDR_UNPACK's next state, and its VPI and VCI as sums of the bytes' nibbles (41_cell_header R140
to R146). -/

namespace Sys2Proof.Proofs

open Sys2Proof Sys2Proof.Machine Sys2Proof.Safety Sys2Proof.Laws

/-! The unpacked header, all or nothing (41 R140, R145). -/

section Unpacked

variable {c : Config} {s : State}

theorem headerUnpacked_of_le (h : 5 ≤ s.lim) :
    headerUnpacked c s = { wrote s 0x1 (headerAt c s) with cur := 5 } := if_pos h

theorem headerUnpacked_of_lt (h : s.lim < 5) :
    headerUnpacked c s = raised s .truncatedBuffer .cellHeader 0 := if_neg (Nat.not_le.mpr h)

theorem settle_decodeCellHeader (c : Config) (s : State) : settle (decodeCellHeader c s) = headerUnpacked c s := by
  rcases Nat.lt_or_ge s.lim 5 with hshort | hfits
  · rw [decodeCellHeader_of_lt hshort, headerUnpacked_of_lt hshort, settle_error, takeError_eq, raised]
  · rw [decodeCellHeader_of_le hfits, headerUnpacked_of_le hfits, settle_ok]

end Unpacked

/-- Settles O10: the row is the header parser, in this spec's block and in any. -/
theorem hdrUnpackResult : Obligations.HdrUnpackResult := by
  have hany : ∀ (c : Config) (s : State), execIn c .hdrUnpack s = .next (headerUnpacked c s) := fun c s => by
    rw [execIn_eq, rowIn, settle_decodeCellHeader]
  exact ⟨fun s => (exec_eq_execIn .hdrUnpack s).trans (hany Config.aldb s), hany⟩

/-! VPI and VCI as sums (41 R141, R142): the parts that each formula joins with OR share no bit. -/

/-- The mask 0xF0 keeps a byte's high nibble and clears the low one. -/
theorem and_highNibble (b : Byte) : b.toNat &&& 0xF0 = b.toNat / 16 * 16 := by
  have hhigh : (b.toNat &&& 0xF0) / 2 ^ 4 = b.toNat / 2 ^ 4 % 2 ^ 4 := by
    rw [Nat.and_div_two_pow, ← Nat.and_two_pow_sub_one_eq_mod]
  have hlow : (b.toNat &&& 0xF0) % 2 ^ 4 = 0 := by
    rw [Nat.and_mod_two_pow, show 0xF0 % 2 ^ 4 = 0 from rfl, Nat.and_zero]
  have := b.isLt
  omega

theorem highNibble_lt (b : Byte) : b.toNat >>> 4 < 2 ^ 4 := by
  have := b.isLt
  rw [Nat.shiftRight_eq_div_pow]
  omega

theorem vpiFormula_eq_sum (b0 b1 : Byte) :
    ((b0.toNat &&& 0xF0) <<< 4) ||| (b1.toNat >>> 4) = b0.toNat / 16 * 256 + b1.toNat / 16 := by
  rw [← Nat.shiftLeft_add_eq_or_of_lt (highNibble_lt b1), and_highNibble, Nat.shiftLeft_eq, Nat.shiftRight_eq_div_pow]
  omega

theorem vciFormula_eq_sum (b1 b2 b3 : Byte) :
    ((b1.toNat &&& 0x0F) <<< 12) ||| (b2.toNat <<< 4) ||| (b3.toNat >>> 4) =
      b1.toNat % 16 * 4096 + b2.toNat * 16 + b3.toNat / 16 := by
  have hb2 := b2.isLt
  have hb3 := highNibble_lt b3
  have hlow : b2.toNat <<< 4 + b3.toNat >>> 4 < 2 ^ 12 := by
    rw [Nat.shiftLeft_eq]
    omega
  rw [Nat.or_assoc, ← Nat.shiftLeft_add_eq_or_of_lt hb3, ← Nat.shiftLeft_add_eq_or_of_lt hlow,
    Nat.and_two_pow_sub_one_eq_mod b1.toNat 4, Nat.shiftLeft_eq, Nat.shiftLeft_eq, Nat.shiftRight_eq_div_pow]
  omega

/-- VPI's bits 11:8 are b0[7:4], its bits 3:0 are b1[7:4], and its bits 7:4 are 0 (41 R141). -/
theorem headerAt_vpi_toNat (c : Config) (s : State) (r : Record) :
    (headerAt c s r).vpi.toNat = (byteAt s 0).toNat / 16 * 256 + (byteAt s 1).toNat / 16 := by
  have := (byteAt s 0).isLt
  have := (byteAt s 1).isLt
  rw [headerAt, headerOf, BitVec.toNat_ofNat, vpiFormula_eq_sum, Nat.mod_eq_of_lt (by omega)]

/-- VCI's bits 15:12 are b1[3:0], its bits 11:4 are b2, and its bits 3:0 are b3[7:4] (41 R142). -/
theorem headerAt_vci_toNat (c : Config) (s : State) (r : Record) :
    (headerAt c s r).vci.toNat =
      (byteAt s 1).toNat % 16 * 4096 + (byteAt s 2).toNat * 16 + (byteAt s 3).toNat / 16 := by
  have := (byteAt s 2).isLt
  have := (byteAt s 3).isLt
  rw [headerAt, headerOf, BitVec.toNat_ofNat, vciFormula_eq_sum, Nat.mod_eq_of_lt (by omega)]

/-- Settles O11: with the whole header inside the limit, the record is `headerAt`'s, whose sums are shown above. -/
theorem vpiVciPlacement : Obligations.VpiVciPlacement := by
  intro s hfits
  have hnext : exec .hdrUnpack s = .next { wrote s 0x1 (headerAt Config.aldb s) with cur := 5 } :=
    (hdrUnpackResult.1 s).trans (congrArg _ (headerUnpacked_of_le hfits))
  exact ⟨_, hnext, rfl, headerAt_vpi_toNat Config.aldb s s.r, rfl, headerAt_vci_toNat Config.aldb s s.r⟩

end Sys2Proof.Proofs
end

section
/-! PROOFS. Trailers: the AAL5 PDU jobs: the trailer taken from the metadata, read from the buffer's last 8 bytes, or not
reported (42_aal5_trailer R150 to R161). -/

namespace Sys2Proof.Proofs

open Sys2Proof Sys2Proof.Machine Sys2Proof.Safety Sys2Proof.Laws

section Parts

variable {s : State} {l : Nat}

/-! The paths that read no byte (42 R151, R156). -/

/-- The metadata's cell count and trailer are one write (42 R151). -/
theorem metaTrailer_eq_wrote (s : State) :
    metaTrailer s =
      if s.dl.cellCount = 0 then s
      else wrote s 0x6 fun r => { r with
        a5Cells := s.dl.cellCount, cellsSrc := 0, uu := s.dl.metaUu, cpi := s.dl.metaCpi, len := s.dl.metaLen
        crc := s.dl.metaCrc, trailerSrc := 1 } := by
  rw [metaTrailer]
  split_ifs with hcount
  · rfl
  · simp only [State.setV, wrote, mask_a5Cells, mask_a5Trailer, BitVec.or_assoc]
    rfl

/-! The trailer's fields in the record (42 R152, R153). -/

/-- The trailer read, then the inferred cell count, in a PDU that holds a trailer. -/
theorem pduTail_of_le (h8 : 8 ≤ s.dl.l.toNat) :
    pduTail Config.aldb s.dl.l.toNat (entered s) =
      (tailLength s.dl.l.toNat >>= fun _ => tailDispatch) (trailerRead s) := by
  have hfits : tailFits (entered s) = .ok () (entered s) := if_neg (Nat.not_lt.mpr h8)
  rw [pduTail, dec_bind_ok hfits, dec_bind_ok (tailTrailer_of_le h8 (le_refl _)), dec_bind_ok (put'_apply _ _)]
  rfl

theorem pduTail_of_lt (h8 : s.dl.l.toNat < 8) :
    pduTail Config.aldb s.dl.l.toNat (entered s) = .error ⟨.truncatedBuffer, .aal5, 0⟩ (entered s) :=
  dec_bind_error (if_pos h8)

/-- The cell count does not touch the trailer's LEN. -/
theorem trailerRead_len (s : State) : (trailerRead s).r.len = BitVec.ofNat 16 (be s (s.dl.l.toNat - 6) 2) := by
  simp only [trailerRead]
  split_ifs <;> rfl

theorem trailerRead_len_toNat (s : State) : (trailerRead s).r.len.toNat = be s (s.dl.l.toNat - 6) 2 := by
  rw [trailerRead_len, BitVec.toNat_ofNat]
  exact Nat.mod_eq_of_lt (beNat_bytes_lt _ _ 2)

/-- The length handed downward is the trailer's LEN, whatever a state with that LEN holds besides. -/
theorem ofNat_be_of_len {t : State} (ht : t.r.len = (trailerRead s).r.len) :
    BitVec.ofNat 32 (be s (s.dl.l.toNat - 6) 2) = t.r.len.setWidth 32 := by
  rw [ht, ← trailerRead_len_toNat, BitVec.ofNat_toNat]

theorem tailDispatch_of_len {t : State} (ht : t.r.len = (trailerRead s).r.len) :
    tailDispatch t = .ok () { t with unit := .pdu 0 (BitVec.ofNat 32 (be s (s.dl.l.toNat - 6) 2)) } := by
  rw [tailDispatch, enter_apply, ofNat_be_of_len ht]

/-- V.A5_TRAILER and V.A5_CELLS are other bits than V.A5_PAD. -/
theorem trailerRead_isValid_a5Pad (s : State) : (trailerRead s).isValid .a5Pad = s.isValid .a5Pad := by
  simp only [trailerRead]
  split_ifs <;> simp [wrote, entered, State.isValid, VBit.index]

/-! The length check and the padding (42 R154, R155). -/

theorem tailLength_of_long (h : l - 8 < s.r.len.toNat) :
    tailLength l s = .error ⟨.malformedLength, .aal5, l - 6⟩ s := if_pos h

theorem tailLength_of_exact (h : s.r.len.toNat = l - 8) : tailLength l s = .ok () s := by
  rw [tailLength, if_neg h.not_gt, if_neg h.not_lt]

theorem tailLength_of_padded (h : s.r.len.toNat < l - 8) :
    tailLength l s = .ok () (wrote s 0x8 fun r => { r with
      padOff := BitVec.ofNat 32 s.r.len.toNat, padLen := BitVec.ofNat 32 (l - 8 - s.r.len.toNat) }) := by
  rw [tailLength, if_neg h.not_gt, if_pos h]
  rfl

end Parts

/-! JOB_PDU_TAIL's next state, an outcome at a time (42 R152). -/

section Outcomes

variable {s : State}

theorem exec_jobPduTail_of_lt (hcap : 65568 < s.dl.l.toNat) :
    exec .jobPduTail s = .next (raised s .badDescriptor .job 0) := by
  rw [exec_eq, rowIn, jobPduTail, dec_bind_error ((jobEnter_eq _ s).trans (if_pos hcap)), settle_error, takeError_eq,
    raised]

theorem exec_jobPduTail_of_le (hcap : s.dl.l.toNat ≤ 65568) :
    exec .jobPduTail s = .next (settle (pduTail Config.aldb s.dl.l.toNat (entered s))) := by
  rw [exec_eq, rowIn, jobPduTail, dec_bind_ok (jobEnter_of_le hcap)]

theorem exec_jobPduTail_of_short (h8 : s.dl.l.toNat < 8) :
    exec .jobPduTail s = .next (raised (entered s) .truncatedBuffer .aal5 0) := by
  rw [exec_jobPduTail_of_le (by omega), pduTail_of_lt h8, settle_error, takeError_eq, raised]

variable (hcap : s.dl.l.toNat ≤ 65568) (h8 : 8 ≤ s.dl.l.toNat)
include hcap h8

theorem exec_jobPduTail_of_long (hlong : s.dl.l.toNat - 8 < be s (s.dl.l.toNat - 6) 2) :
    exec .jobPduTail s = .next (raised (trailerRead s) .malformedLength .aal5 (s.dl.l.toNat - 6)) := by
  have hlen := hlong.trans_eq (trailerRead_len_toNat s).symm
  rw [exec_jobPduTail_of_le hcap, pduTail_of_le h8, dec_bind_error (tailLength_of_long hlen), settle_error,
    takeError_eq, raised]

theorem exec_jobPduTail_of_exact (hexact : be s (s.dl.l.toNat - 6) 2 = s.dl.l.toNat - 8) :
    exec .jobPduTail s = .next
      { trailerRead s with unit := .pdu 0 (BitVec.ofNat 32 (be s (s.dl.l.toNat - 6) 2)) } := by
  have hlen := (trailerRead_len_toNat s).trans hexact
  rw [exec_jobPduTail_of_le hcap, pduTail_of_le h8, dec_bind_ok (tailLength_of_exact hlen), tailDispatch_of_len rfl,
    settle_ok]

theorem exec_jobPduTail_of_padded (hpadded : be s (s.dl.l.toNat - 6) 2 < s.dl.l.toNat - 8) :
    exec .jobPduTail s = .next
      { wrote (trailerRead s) 0x8 (fun r => { r with
          padOff := BitVec.ofNat 32 (be s (s.dl.l.toNat - 6) 2)
          padLen := BitVec.ofNat 32 (s.dl.l.toNat - 8 - be s (s.dl.l.toNat - 6) 2) })
        with unit := .pdu 0 (BitVec.ofNat 32 (be s (s.dl.l.toNat - 6) 2)) } := by
  have hlen := (trailerRead_len_toNat s).trans_lt hpadded
  rw [exec_jobPduTail_of_le hcap, pduTail_of_le h8, dec_bind_ok (tailLength_of_padded hlen),
    tailDispatch_of_len (s := s), settle_ok, trailerRead_len_toNat]
  rfl

end Outcomes

/-- Settles O12: past the opening of the job each row is one write that reads the latch alone, and the call. -/
theorem jobPduTruncAndCutResult : Obligations.JobPduTruncAndCutResult := by
  refine ⟨fun s hu haal => ⟨fun htrunc => ?selectTrunc, fun htrunc hlt => ?selectCut⟩, fun s hcap => ⟨?cut, ?trunc⟩⟩
  case selectTrunc => rw [jobKindSelection s hu, if_pos haal, if_pos htrunc]
  case selectCut =>
    rw [jobKindSelection s hu, if_pos haal, if_neg (Bool.eq_false_iff.mp htrunc), if_neg (Nat.not_le.mpr hlt)]
  case cut =>
    rw [exec_eq, rowIn, jobPduCut, dec_bind_ok (jobEnter_of_le hcap), pduCut, enter_apply, settle_ok]
    rfl
  case trunc =>
    rw [exec_eq, rowIn, jobPduTrunc, dec_bind_ok (jobEnter_of_le hcap), pduTrunc, enter_apply, settle_ok,
      metaTrailer_eq_wrote]
    rfl

/-- Settles O13: L against 8, then LEN against L-8, gives the row its four outcomes. -/
theorem jobPduTailResult : Obligations.JobPduTailResult := by
  refine ⟨fun s hu haal htrunc hle => ?selected, fun s hcap => ?next⟩
  case selected =>
    rw [jobKindSelection s hu, if_pos haal, if_neg (Bool.eq_false_iff.mp htrunc), if_pos hle]
  case next =>
    split_ifs with h8 hlong hexact
    · exact exec_jobPduTail_of_short h8
    · exact exec_jobPduTail_of_long hcap (Nat.le_of_not_lt h8) hlong
    · exact exec_jobPduTail_of_exact hcap (Nat.le_of_not_lt h8) hexact
    · exact exec_jobPduTail_of_padded hcap (Nat.le_of_not_lt h8) (by omega)

/-- Settles O14: of the row's outcomes only LEN = L-8 and LEN < L-8 leave no error, the first with no padding. -/
theorem tailLengthBound : Obligations.TailLengthBound := by
  intro s t _ hpad hexec hnone
  have hend : ∀ u, exec .jobPduTail s = .next u → t = u := fun u hu => by cases hexec.symm.trans hu; rfl
  rcases Nat.lt_or_ge 65568 s.dl.l.toNat with hover | hcap
  · cases hend _ (exec_jobPduTail_of_lt hover)
    cases hnone
  rcases Nat.lt_or_ge s.dl.l.toNat 8 with hshort | h8
  · cases hend _ (exec_jobPduTail_of_short hshort)
    cases hnone
  have hlen := trailerRead_len_toNat s
  rcases Nat.lt_trichotomy (be s (s.dl.l.toNat - 6) 2) (s.dl.l.toNat - 8) with hpadded | hexact | hlong
  · cases hend _ (exec_jobPduTail_of_padded hcap h8 hpadded)
    refine ⟨h8, (hlen.trans_lt hpadded).le, fun _ => ?padLen, congrArg _ (ofNat_be_of_len rfl)⟩
    case padLen =>
      show (BitVec.ofNat 32 _).toNat = s.dl.l.toNat - 8 - (trailerRead s).r.len.toNat
      rw [hlen, BitVec.toNat_ofNat, Nat.mod_eq_of_lt (by omega)]
  · cases hend _ (exec_jobPduTail_of_exact hcap h8 hexact)
    have hunset : (trailerRead s).isValid .a5Pad = false := (trailerRead_isValid_a5Pad s).trans hpad
    exact ⟨h8, (hlen.trans hexact).le, fun hset => Bool.noConfusion (hset.symm.trans hunset),
      congrArg _ (ofNat_be_of_len rfl)⟩
  · cases hend _ (exec_jobPduTail_of_long hcap h8 hlong)
    cases hnone

end Sys2Proof.Proofs
end

section
/-! PROOFS. Opcodes: the classification of R97, and the READY frames, which end at their opcode (43_le_control R174, R175,
R193). -/

namespace Sys2Proof.Proofs

open Sys2Proof Sys2Proof.Machine Sys2Proof.Safety Sys2Proof.Laws

section Ready

variable {c : Config} {op : Half} {f : Word} {s : State}

/-- The opening's four fields are the frame's first six bytes (30 R88). -/
theorem le_of_mem_headerFields_take {f cls : Nat} {x : Field} (h : x ∈ (headerFields s f op cls).take 4) :
    x.1 + x.2.1 ≤ 6 := by
  have hall : ∀ y ∈ (headerFields s f op cls).take 4, y.1 + y.2.1 ≤ 6 := by simp [headerFields]
  exact hall x h

/-- `le_control(F)` for a READY opcode is the opening's fields in order, then the job's end (43 R174, R175). -/
theorem leControl_eq_readInOrder_of_ready (hready : isReady c op = true) :
    leControl c f op s =
      (readInOrder .leControl f.toNat ((headerFields s f.toNat op (opclass c op)).take 4) >>= fun _ => finish) s := by
  have hopen := leOpening_bind_eq c f.toNat op s finish (xs := []) (g := fun _ => finish) fun _ _ => rfl
  rw [List.append_nil] at hopen
  rw [← hopen, leControl, hready]
  rfl

/-- A READY row whose opening fits reports it and ends the job. -/
theorem exec_of_ready {i : Instr} (hrow : rowIn Config.aldb i = leControl Config.aldb f op)
    (hready : isReady Config.aldb op = true) (h : f.toNat + 6 ≤ s.lim) :
    exec i s = .next (ended (consume s f.toNat ((headerFields s f.toNat op (opclass Config.aldb op)).take 4))) := by
  have hfits : ∀ y ∈ (headerFields s f.toNat op (opclass Config.aldb op)).take 4,
      f.toNat + y.1 + y.2.1 ≤ s.lim := fun y hy => by
    have := le_of_mem_headerFields_take hy
    omega
  rw [exec_eq, hrow, leControl_eq_readInOrder_of_ready hready, dec_bind_ok (readInOrder_of_fits hfits)]
  rfl

end Ready

/-- Settles O19: the values of OPCLASS 4 and 5 are the READY opcodes. -/
theorem readyRowsResult : Obligations.ReadyRowsResult := fun _ _ h =>
  ⟨exec_of_ready (op := 0x0003) rfl rfl h, exec_of_ready (op := 0x0103) rfl rfl h⟩

/-- The body-kind column of R97 is a function of the class. -/
theorem bodyOfClass_opcodeRows : ∀ e ∈ opcodeRows, bodyOfClass e.2.2.1 = e.2.2.2 := by decide

/-- Settles O4: the class is looked up in the table, and gives the body kind. -/
theorem opcodeClassification : Obligations.OpcodeClassification := by
  refine ⟨fun e he => ?known, fun op hne => ?unknown, by decide⟩
  case known =>
    obtain ⟨hcls, -⟩ := opcodeRows_spec e he
    exact ⟨hcls, by rw [bodyKind, hcls, bodyOfClass_opcodeRows e he]⟩
  case unknown =>
    have hcls := opclass_unknown hne
    exact ⟨hcls, by rw [bodyKind, hcls]; rfl⟩

end Sys2Proof.Proofs
end

section
/-! PROOFS. NoBody: the opcodes that select no body, whose frames end at their header (43_le_control R189, R192,
44_le_bodies R221). -/

namespace Sys2Proof.Proofs

open Sys2Proof Sys2Proof.Machine Sys2Proof.Safety Sys2Proof.Laws

/-- A row of TOPOLOGY_REQUEST's class, or of the class of every unknown opcode, reports its header and the body kind, and
ends the job. -/
theorem exec_of_noBody {op : Half} {f : Word} {s : State} {i : Instr} {cls : Nat}
    (hrow : rowIn Config.aldb i = leControl Config.aldb f op) (hop : opclass Config.aldb op = cls)
    (hcls : cls = 15 ∨ cls = 31) (h : f.toNat + 16 ≤ s.lim) :
    exec i s =
      .next (ended (bodyChosen (consume s f.toNat (headerFields s f.toNat op cls)) (bodyOfClass cls))) := by
  subst hop
  have hready : isReady Config.aldb op = false := by rcases hcls with hc | hc <;> simp [isReady, hc]
  have hkind : bodyKind Config.aldb op ≠ .configureJoin := by
    rcases hcls with hc | hc <;> simp [bodyKind, bodyOfClass, hc]
  have hend : leEnter (bodyKind Config.aldb op) f = finish := by rcases hcls with hc | hc <;> rw [bodyKind, hc] <;> rfl
  rw [exec_eq, hrow, leControl_of_fits hready h, flagBits_of_plain hkind (by omega), leBody, hend]
  rfl

/-- Settles O23: the two rows are of the two classes with no body. -/
theorem noBodyHeaderResult : Obligations.NoBodyHeaderResult := fun _ _ h =>
  ⟨exec_of_noBody (op := 0x0009) rfl rfl (.inl rfl) h,
   fun _ hne => exec_of_noBody rfl (opclass_unknown hne) (.inr rfl) h⟩

end Sys2Proof.Proofs
end

section
/-! PROOFS. LanTlv: LD_DECODE as a row of its own, and the TLV walk entry by entry: what it has reported after each, and
how it ends (45_lan_dest_tlv R240 to R248). -/

namespace Sys2Proof.Proofs

open Sys2Proof Sys2Proof.Machine Sys2Proof.Safety Sys2Proof.Laws

/-! LD_DECODE (45 R240). -/

/-- The row is the sub-operation: the slot decoded whole, or the error where it is cut. -/
theorem exec_ldDecode (d : Word) (slot : BitVec 8) (s : State) :
    exec (.ldDecode d slot) s = .next ((ldCut Config.aldb s d.toNat).elim (ldKept Config.aldb d.toNat slot.toNat s)
      (raised s .truncatedBuffer .lanDest)) := by
  rw [exec_eq, rowIn, lanDest_eq_ldCut]
  cases ldCut Config.aldb s d.toNat <;> rfl

/-- Where a decode is cut, at this spec's tag values (45 R240 to R242). -/
theorem ldCut_aldb (s : State) (d : Nat) :
    ldCut Config.aldb s d =
      if s.lim < d + 2 then some d
      else if be s d 2 = 1 ∧ s.lim < d + 8 then some (d + 2)
      else if be s d 2 = 2 ∧ s.lim < d + 8 then some (d + 6)
      else none := by
  have hmac : Config.aldb.ldTagMac.toNat = 1 := rfl
  have hroute : Config.aldb.ldTagRoute.toNat = 2 := rfl
  by_cases h8 : s.lim < d + 8
  · simp only [ldCut, hmac, hroute, h8, and_true, if_true]
  · simp [ldCut, h8]

/-- Settles O32: the row's cut, read at each tag; what it keeps, read at each slot. -/
theorem ldDecodeResult : Obligations.LdDecodeResult := by
  intro s d slot hslot
  rw [exec_ldDecode, ldCut_aldb]
  split_ifs with hshort hmac hroute hzero
  · rfl
  · rfl
  · rfl
  · subst hzero
    rfl
  · obtain rfl := hslot.resolve_left hzero
    rfl

/-! The TLV walk (45 R245). -/

section Walk

variable {s : State} {o n j : Nat}

/-- The TLV slots after a walk from `o` has reported its first `k` entries. -/
def slotsWalked (s : State) (o : Nat) : Nat → List TlvRec
  | 0 => s.r.tlvs
  | k + 1 => tlvPut (slotsWalked s o k) k (tlvEntry s.buf o k)

theorem tlvSlot_slotsWalked (s : State) (o k i : Nat) :
    tlvSlot (slotsWalked s o k) i = if i < k then tlvEntry s.buf o i else tlvSlot s.r.tlvs i := by
  induction k with
  | zero => rfl
  | succ k ih =>
    rw [slotsWalked, tlvSlot_tlvPut, ih]
    rcases Nat.lt_trichotomy i k with hlt | rfl | hgt
    · rw [if_neg (by omega), if_pos hlt, if_pos (by omega)]
    · rw [if_pos rfl, if_pos (by omega)]
    · rw [if_neg (by omega), if_neg (by omega), if_neg (by omega)]

/-- The state inside a walk from `o`, its first `k` entries reported and the cursor at the next (45 R245). -/
def walked (s : State) (o k : Nat) : State :=
  { wrote s 0x4000000 (fun r => { r with tlvsDone := BitVec.ofNat 9 k, tlvs := slotsWalked s o k })
    with cur := tlvStart s.buf o k }

/-- Reporting entry `k` where entry `k` starts. -/
theorem entryReported_walked (s : State) (o k : Nat) :
    entryReported (walked s o k) k (tlvStart s.buf o k) = walked s o (k + 1) := by
  have hread : byteAt (walked s o k) = byteAt s := rfl
  simp only [entryReported, hread, BitVec.ofNat_toNat, BitVec.setWidth_eq]
  rfl

/-- One turn of the loop inside a walk: entry `k` is reported, or cut in its head or in its value (45 R245, R246). -/
theorem tlvLoop_walked (s : State) (o n k : Nat) :
    tlvLoop (n + 1) k (tlvStart s.buf o k) (walked s o k) =
      if s.lim < tlvStart s.buf o k + 4 then .error ⟨.truncatedBuffer, .tlv, tlvStart s.buf o k⟩ (walked s o k)
      else if s.lim < tlvStart s.buf o k + 5 then
        .error ⟨.truncatedBuffer, .tlv, tlvStart s.buf o k + 4⟩ (walked s o k)
      else if s.lim < tlvStart s.buf o (k + 1) then
        .error ⟨.malformedLength, .tlv, tlvStart s.buf o k + 4⟩ (walked s o k)
      else tlvLoop n (k + 1) (tlvStart s.buf o (k + 1)) (walked s o (k + 1)) := by
  rw [tlvLoop_succ, entryReported_walked]
  rfl

theorem tlvStart_add_five_le (b : Memory) (o k : Nat) : tlvStart b o k + 5 ≤ tlvStart b o (k + 1) :=
  Nat.le_add_right _ _

/-- A walk passes the entries that fit, one turn for each (45 R247). -/
theorem tlvLoop_of_fits (hfit : ∀ k < j, tlvStart s.buf o (k + 1) ≤ s.lim) (m : Nat) :
    tlvLoop (j + m) 0 o (walked s o 0) = tlvLoop m j (tlvStart s.buf o j) (walked s o j) := by
  induction j generalizing m with
  | zero => rw [Nat.zero_add]; rfl
  | succ j ih =>
    have hlast : tlvStart s.buf o (j + 1) ≤ s.lim := hfit j (Nat.lt_succ_self j)
    have hhead := tlvStart_add_five_le s.buf o j
    calc tlvLoop (j + 1 + m) 0 o (walked s o 0)
      _ = tlvLoop (j + (m + 1)) 0 o (walked s o 0) := by rw [Nat.add_right_comm, Nat.add_assoc]
      _ = tlvLoop (m + 1) j (tlvStart s.buf o j) (walked s o j) := ih (fun k hk => hfit k (by omega)) (m + 1)
      _ = tlvLoop m (j + 1) (tlvStart s.buf o (j + 1)) (walked s o (j + 1)) := by
        rw [tlvLoop_walked, if_neg (by omega), if_neg (by omega), if_neg (by omega)]

/-- The walk sets V.TLVS and starts its count over, then loops (45 R245). -/
theorem tlvRun_eq (o n : Nat) (s : State) : tlvRun o n s = tlvLoop n 0 o (walked s o 0) := by
  rw [tlvRun, dec_bind_ok (putField_apply _ _ _), dec_bind_ok (setCur_apply _ _)]
  rfl

/-- A walk whose entries all fit reports them all (45 R247, R248). -/
theorem tlvRun_of_fits (hfit : ∀ k < n, tlvStart s.buf o (k + 1) ≤ s.lim) : tlvRun o n s = .ok () (walked s o n) := by
  rw [tlvRun_eq]
  exact tlvLoop_of_fits hfit 0

/-- A walk ends at the first entry that does not fit, with those before it reported (45 R246). -/
theorem tlvRun_of_cut (hj : j < n) (hfit : ∀ k < j, tlvStart s.buf o (k + 1) ≤ s.lim)
    (hcut : s.lim < tlvStart s.buf o (j + 1)) :
    tlvRun o n s = .error
      ⟨if s.lim < tlvStart s.buf o j + 5 then .truncatedBuffer else .malformedLength, .tlv,
        if s.lim < tlvStart s.buf o j + 4 then tlvStart s.buf o j else tlvStart s.buf o j + 4⟩ (walked s o j) := by
  obtain ⟨m, rfl⟩ := Nat.exists_eq_add_of_lt hj
  rw [tlvRun_eq, Nat.add_assoc, tlvLoop_of_fits hfit, tlvLoop_walked]
  by_cases h4 : s.lim < tlvStart s.buf o j + 4
  · simp only [if_pos h4, if_pos (show s.lim < tlvStart s.buf o j + 5 by omega)]
  · by_cases h5 : s.lim < tlvStart s.buf o j + 5
    · simp only [if_neg h4, if_pos h5]
    · simp only [if_neg h4, if_neg h5, if_pos hcut]

end Walk

/-- Settles O33: every turn of the loop passes; the count that is left is the walk's. -/
theorem tlvWalkResult : Obligations.TlvWalkResult := by
  intro s o n hfit
  refine ⟨slotsWalked s o.toNat n.toNat, ?_, tlvSlot_slotsWalked s o.toNat n.toNat⟩
  rw [exec_eq, rowIn, tlvWalkEnd, dec_bind_ok (tlvRun_of_fits hfit), finish_apply, walked, BitVec.ofNat_toNat]
  rfl

/-- Settles O34: the turns before entry `j` pass, and its own raises. -/
theorem tlvWalkErrors : Obligations.TlvWalkErrors := by
  intro s o n j hj hfit hcut
  refine ⟨slotsWalked s o.toNat j, ?_, tlvSlot_slotsWalked s o.toNat j⟩
  rw [exec_eq, rowIn, tlvWalkEnd, settle_bind_error (tlvRun_of_cut hj hfit hcut), walked]

end Sys2Proof.Proofs
end

section
/-! PROOFS. Errors: what an error ends and what the job's opening refuses (60_exceptions R261 to R264), and that the
engines of a block share no state (R272). -/

namespace Sys2Proof.Proofs

open Sys2Proof Sys2Proof.Machine Sys2Proof.Safety Sys2Proof.Laws

/-! Every row raises named errors, the job rows and PDU_LANE among them (60 R261, R262). -/

/-- What the pieces of a row have, every row has, when the steps that move the read limit or write a field apart from
its valid bit have it too. -/
theorem RowRule.everyRow {c : Config} {R : ∀ {α : Type}, Dec α → Prop} (h : RowRule c R) (hjob : R (jobEnter c))
    (htail : ∀ l, R (tailTrailer l)) (hlane : ∀ po pl, R (laneSplit po pl)) (i : Instr) : R (Machine.rowIn c i) := by
  cases i with
  | jobCell => exact h.bind hjob fun _ => h.cellPath
  | jobPduTrunc => exact h.bind hjob fun _ => h.pduTrunc
  | jobPduTail =>
    exact h.look (m := fun dl _ _ => jobEnter c >>= fun _ => pduTail c dl.l.toNat) fun _ _ _ =>
      h.bind hjob fun _ => h.bind h.tailFits fun _ => h.bind (htail _) fun _ => h.tailRest _
  | jobPduCut => exact h.bind hjob fun _ => h.pduCut
  | pduLane po pl => exact hlane po pl
  | _ => exact h.rowIn nofun nofun

theorem raisesNamed_rowIn (c : Config) (i : Instr) : RaisesNamed (rowIn c i) :=
  (raisesNamed_rowRule c).everyRow (raisesNamed_jobEnter c) raisesNamed_tailTrailer
    (fun _ _ => raisesNamed_bind (raisesNamed_put' _) fun _ => raisesNamed_put' _) i

/-- Settles O52: a row that goes on leaves ERR_CODE alone, so the error is one it raised, and taking it ends the job. -/
theorem errorEndsJob : Obligations.ErrorEndsJob := by
  intro i s t hnone hexec herr
  have hsame := sameError_respected.leaves_rowIn Config.aldb i s
  rw [exec_eq] at hexec
  cases hexec
  cases hrow : rowIn Config.aldb i s with
  | ok a u =>
    rw [hrow] at hsame herr
    exact absurd (hsame.1.trans hnone) herr
  | error e u => exact ⟨rfl, rfl, rfl, (raisesNamed_rowIn _ i s e u hrow).2⟩

/-! The job rows on each side of BUF_CAP (60 R264). -/

section JobRows

variable {i : Instr} {s : State}

theorem mem_jobRows : i ∈ jobRows ↔ i = .jobCell ∨ i = .jobPduTrunc ∨ i = .jobPduTail ∨ i = .jobPduCut := by
  simp [jobRows]

theorem rowIn_jobRow_of_overlong {c : Config} (hi : i ∈ jobRows) (hover : c.bufCap < s.dl.l.toNat) :
    rowIn c i s = .error ⟨.badDescriptor, .job, 0⟩ s := by
  have hrefused : jobEnter c s = .error ⟨.badDescriptor, .job, 0⟩ s := (jobEnter_eq c s).trans (if_pos hover)
  rcases mem_jobRows.mp hi with rfl | rfl | rfl | rfl <;> exact dec_bind_error hrefused

theorem trailerRead_errCode (s : State) : (trailerRead s).errCode = s.errCode := by
  simp only [trailerRead]
  split_ifs <;> rfl

/-- The error codes that a job row past its opening leaves: the earlier one, or one of its own two (42 R154, R157;
41 R144). -/
theorem exec_jobRow_errCode (hi : i ∈ jobRows) (hcap : s.dl.l.toNat ≤ 65568) :
    ∃ t, exec i s = .next t ∧ (t.errCode = s.errCode ∨ t.errCode = .truncatedBuffer ∨ t.errCode = .malformedLength) := by
  obtain ⟨hcut, htrunc⟩ := jobPduTruncAndCutResult.2 s hcap
  rcases mem_jobRows.mp hi with rfl | rfl | rfl | rfl
  · rcases Nat.lt_or_ge s.dl.l.toNat 5 with hshort | h5
    · exact ⟨_, jobCellResult.2.2 s hshort, .inr (.inl rfl)⟩
    · exact ⟨_, jobCellResult.2.1 s hcap h5, .inl rfl⟩
  · refine ⟨_, htrunc, .inl ?_⟩
    split_ifs <;> rfl
  · refine ⟨_, jobPduTailResult.2 s hcap, ?_⟩
    split_ifs
    · exact .inr (.inl rfl)
    · exact .inr (.inr rfl)
    · exact .inl (trailerRead_errCode s)
    · exact .inl (trailerRead_errCode s)
  · exact ⟨_, hcut, .inl rfl⟩

end JobRows

/-- Settles O8: the opening of each job row tests L alone, and past it no row raises BadDescriptor. -/
theorem overlongJobRefused : Obligations.OverlongJobRefused := by
  refine ⟨fun i s hi hover => ?refused, fun i s hi hcap hnone => ?completes⟩
  case refused => rw [exec_eq, rowIn_jobRow_of_overlong hi hover, settle_error, takeError_eq, raised]
  case completes =>
    obtain ⟨t, hexec, hcode⟩ := exec_jobRow_errCode hi hcap
    refine ⟨t, hexec, ?_⟩
    rcases hcode with hcode | hcode | hcode <;> simp [hcode, hnone]

/-! The engines of a block (60 R272). -/

/-- A block's step that goes on is one engine's own step, put back in its place. -/
theorem blockStep_eq_next {c : Config} {b b' : Block} {k : Nat} (h : Block.step c b k = .next b') :
    ∃ s t, b[k]? = some s ∧ stepIn c s = .next t ∧ b' = b.set k t := by
  unfold Block.step at h
  split at h
  · cases h
  · next s hs =>
    split at h
    · next t ht =>
      cases h
      exact ⟨s, t, hs, ht, rfl⟩
    · cases h
    · cases h

/-- Settles O60: setting one entry of the list leaves its length and its other entries. -/
theorem enginesIndependent : Obligations.EnginesIndependent := by
  intro c b b' k h
  obtain ⟨s, t, hs, ht, rfl⟩ := blockStep_eq_next h
  have hk : k < b.length := (List.getElem?_eq_some_iff.mp hs).1
  exact ⟨List.length_set, fun j hj => List.getElem?_set_ne hj.symm, s, t, hs, ht, List.getElem?_set_self hk⟩

end Sys2Proof.Proofs
end

section
/-! PROOFS. IdleEngine: when an IDLE engine keeps its results, and the job that START runs from the reset descriptor
(70_reset R283, R286). -/

namespace Sys2Proof.Proofs

open Sys2Proof Sys2Proof.Machine Sys2Proof.Safety Sys2Proof.Laws

/-! The results while IDLE (70 R286). -/

/-- The results, their valid bits and the error are those of an earlier state. -/
def ResultsKept (s t : State) : Prop :=
  t.r = s.r ∧ t.valid = s.valid ∧ t.errCode = s.errCode ∧ t.errUnit = s.errUnit ∧ t.errOffset = s.errOffset

/-- Of the CTRL writes, START and SOFT_RESET alone touch the results (10_state R22). -/
theorem resultsKept_ctrlWrite (v : Word) (s : State) :
    ResultsKept s (ctrlWrite v s) ∨ v.getLsbD 0 = true ∨ v.getLsbD 1 = true := by
  rcases ctrlWrite_cases v s with ⟨hreset, -⟩ | ⟨-, hstart, -⟩ | ⟨-, hplain⟩
  · exact .inr (.inr hreset)
  · exact .inr (.inl hstart)
  · rw [hplain]
    exact .inl ⟨rfl, rfl, rfl, rfl, rfl⟩

/-- Of the host's transactions, a CTRL write with START or SOFT_RESET alone touches the results. -/
theorem HostChange.resultsKept {s t : State} {op : PortOp} (h : HostChange s op t) :
    ResultsKept s t ∨ ∃ v, op = .wr 0x000 4 v ∧ (v.getLsbD 0 = true ∨ v.getLsbD 1 = true) := by
  cases h with
  | ctrl v hop => exact (resultsKept_ctrlWrite v s).imp_right fun hbits => ⟨v, hop, hbits⟩
  | clearDone | desc | byte | values => exact .inl ⟨rfl, rfl, rfl, rfl, rfl⟩

/-- Settles O49: an IDLE engine has no turn, so a step is a transaction passed over or one of the host's. -/
theorem resultsHoldWhileIdle : Obligations.ResultsHoldWhileIdle := by
  intro s t hidle hst
  cases step_next hst with
  | pass p => exact .inl ⟨rfl, rfl, rfl, rfl, rfl⟩
  | turn p hbusy => exact Phase.noConfusion (hidle.symm.trans hbusy)
  | host op rest hp hc =>
    rcases hc.resultsKept with hkept | ⟨v, rfl, hbits⟩
    · exact .inl hkept
    · exact .inr ⟨v, rest, hp, hbits⟩

/-! START with the reset descriptor (70 R283). -/

theorem latchOf_reset_desc : latchOf State.reset.desc = Latch.zero := by decide

theorem started_dl_of_reset {s : State} (hd : s.desc = State.reset.desc) : (started s).dl = Latch.zero :=
  (congrArg latchOf hd).trans latchOf_reset_desc

/-- Settles O59: the latch is all 0, so AAL 0 selects JOB_CELL, whose header does not fit in L = 0. -/
theorem resetDescriptorRunsJobCell : Obligations.ResetDescriptorRunsJobCell := by
  intro s hidle hd hp
  have hdl := started_dl_of_reset hd
  obtain ⟨hselects, -, hshort⟩ := jobCellResult
  have hfetch : fetch (started s) = .row .jobCell :=
    hselects _ rfl (by rw [hdl]; decide) (by rw [hdl]; decide)
  have hstep : step (started s) = exec .jobCell (started s) := (step_busy rfl rfl).trans (engineStep_row _ _ hfetch)
  have hexec := hshort (started s) (by rw [hdl]; decide)
  exact ⟨started s, _, step_started hidle hp, hfetch, congrArg Latch.l hdl, hstep.trans hexec,
    rfl, rfl, rfl, rfl, rfl, rfl⟩

end Sys2Proof.Proofs
end
